-- ==== Sys2Proof/Word.lean ====
section
/-! DEFINITION. The words of the TQ48: what the manual itself treats as bits (00_scope.md, sections 4.1 to 4.3;
R139, R153, R181). Currents, voltages, forces and times that the manual only adds and compares are plain `Nat`. -/

namespace Sys2Proof

/-- One byte of the truck port, of the line and of the configuration memory (R102, R171, R179). -/
abbrev Byte := BitVec 8

/-- A two-byte field of a frame as it arrives on the line, high byte first (R103). -/
abbrev Half := BitVec 16

/-- A station address (00_scope.md, section 4.3). -/
abbrev Address := BitVec 16

/-- A 12-bit conversion code (R139). -/
abbrev Code := BitVec 12

/-- A reading of the 48-bit 1 ms timebase (R181): differences of two readings wrap as the manual says. -/
abbrev Reading := BitVec 48

/-- A reading of the 24-bit 10 µs arc timebase (R153). -/
abbrev ArcTime := BitVec 24

/-- The 32 event flag positions (R175). -/
abbrev FlagSet := BitVec 32

end Sys2Proof
end

