-- ==== Sys2Proof/Config.lean ====
section
/-! DEFINITION. What is fixed in the part (00_scope.md, section 4.5) and what the configuration block fixes for one
power-on (R179, R180). The manual leaves no result open, so no free value stands here (notes/assumptions/15.md). -/

namespace Sys2Proof

/-- Fixed quantities of 00_scope.md, section 4.5, and of the rules named. -/
abbrev peerCapacity : Nat := 12
/-- R77. -/
abbrev holdCapacity : Nat := 4
/-- R158. -/
abbrev arcLogCapacity : Nat := 16
/-- R155. -/
abbrev pendingArcCapacity : Nat := 2
/-- Largest demand, allocation, limit and measured truck current (A). -/
abbrev maxTruckCurrent : Nat := 4095
/-- Largest floor (A). -/
abbrev maxFloor : Nat := 1023
/-- Largest capacity, feeder current, unaccounted current and budget (A). -/
abbrev maxSectionCurrent : Nat := 16383
/-- LIMIT PWM period in µs (R69). -/
abbrev limitPeriod : Nat := 4096
/-- LSTB pulse in µs (section 4.5 of Chapter 4, R72). -/
abbrev strobeWidth : Nat := 100
/-- Actuator PWM period in µs (R121). -/
abbrev actuatorPeriod : Nat := 50
/-- One conversion in µs (R140). -/
abbrev conversionTime : Nat := 20
/-- One sweep of 18 conversions in µs (R140). -/
abbrev sweepTime : Nat := 360
/-- One character of ten bit times on the line, in whole µs (R102; notes/assumptions/13.md). -/
abbrev characterTime : Nat := 260
/-- The longest gap within a frame, in µs (R105). -/
abbrev maxGap : Nat := 2000
/-- The two conversions of an open-wire test in µs (R142). -/
abbrev testTime : Nat := 40
/-- The self-check's length in µs from the end of the load (R148). -/
abbrev selfCheckTime : Nat := 680
/-- Restarts allowed between two completed sweeps (R145). -/
abbrev maxAborts : Nat := 4
/-- Deferrals at which a periodic frame is dropped (R113). -/
abbrev periodicAttempts : Nat := 12
/-- Deferrals at which an urgent frame is dropped (R113). -/
abbrev urgentAttempts : Nat := 32
/-- Age, in counts of 10 µs, at which an untimed arc record saturates (R156). -/
abbrev arcSaturationAge : Nat := 65535

/-- The role fixed by the configuration block (00_scope.md, section 1.2; R180, byte 3 bit 0). -/
inductive Role where
  | truck
  | feeder
  deriving DecidableEq, Repr

/-- The strobe mode (Chapter 4 state table; R72, R73). -/
inductive StrobeMode where
  | off
  | onChange
  | everyApplication
  deriving DecidableEq, Repr

/-- The load result of R179, which READ IDENTITY reports as 0 to 4. -/
inductive LoadResult where
  | accepted
  | acceptedClamped
  | notRead
  | badVersion
  | badCrc
  deriving DecidableEq, Repr

/-- The configuration in use: every value as the part uses it, after clamping and correction (R180). -/
structure Configuration where
  address          : Address
  role             : Role
  strobeMode       : StrobeMode
  stormThreshold   : Nat
  /-- cycle period, units of 10 ms -/
  period           : Nat
  listenTime       : Nat
  weight0          : Nat
  weight1          : Nat
  weight2          : Nat
  weight3          : Nat
  floor            : Nat
  rating           : Nat
  rampStep         : Nat
  capacity         : Nat
  vMin             : Nat
  vKnee            : Nat
  vCollapse        : Nat
  vDead            : Nat
  releaseCurrent   : Nat
  unloadTimeout    : Nat
  raiseTimeout     : Nat
  lowerTimeout     : Nat
  contactThreshold : Nat
  windowLow        : Nat
  windowHigh       : Nat
  lossThreshold    : Nat
  /-- loss time, units of 10 ms -/
  lossTime         : Nat
  imbalanceLimit   : Nat
  raiseDuty        : Nat
  lowerDuty        : Nat
  holdStart        : Nat
  holdMin          : Nat
  holdMax          : Nat
  holdStep         : Nat
  topStop          : Nat
  loweredThreshold : Nat
  arcWindow        : Nat
  collapseHold     : Nat
  feederHold       : Nat
  crossingTimeout  : Nat
  deriving DecidableEq, Repr

/-- The Default column of R180, with the address 0x0000 that a rejected block leaves (R179); its role is truck
(notes/assumptions/29.md). -/
def defaultConfiguration : Configuration where
  address := 0
  role := .truck
  strobeMode := .onChange
  stormThreshold := 6
  period := 10
  listenTime := 600
  weight0 := 8
  weight1 := 4
  weight2 := 2
  weight3 := 1
  floor := 300
  rating := 2000
  rampStep := 150
  capacity := 4000
  vMin := 1700
  vKnee := 2200
  vCollapse := 1400
  vDead := 300
  releaseCurrent := 40
  unloadTimeout := 600
  raiseTimeout := 4000
  lowerTimeout := 4000
  contactThreshold := 100
  windowLow := 180
  windowHigh := 260
  lossThreshold := 60
  lossTime := 8
  imbalanceLimit := 80
  raiseDuty := 220
  lowerDuty := 160
  holdStart := 128
  holdMin := 64
  holdMax := 240
  holdStep := 4
  topStop := 4000
  loweredThreshold := 150
  arcWindow := 1000
  collapseHold := 2000
  feederHold := 1500
  crossingTimeout := 8000

end Sys2Proof
end

