-- ==== Sys2Proof/Syntax.lean ====
section
/-! DEFINITION. The commands of the TQ48: one constructor of `Instr` for each row of spec/opcode_table.json. Every command that
comes about while the timebases run carries the moment `t` at which it does, in µs since the end of the configuration load
(notes/assumptions/2.md); what the manual reads from outside at that moment (a frame, samples, a pin's level, parameter bytes) is
an operand of the command that reads it (notes/assumptions/4.md). -/

namespace Sys2Proof

/-- The payload of a DEMAND frame, bytes 5 to 17 (R103). -/
structure DemandPayload where
  sharingMode     : Byte
  weight          : Byte
  period          : Byte
  effectiveDemand : Half
  floor           : Half
  allocation      : Half
  measured        : Half
  voltage         : Half
  deriving DecidableEq, Repr

/-- The payload of a SUPPLY frame, bytes 5 to 14 (R103). -/
structure SupplyPayload where
  period        : Byte
  capacity      : Half
  feederCurrent : Half
  unaccounted   : Half
  voltage       : Half
  flags         : Byte
  deriving DecidableEq, Repr

/-- The payload of a SHED frame, bytes 5 to 7 (R103). -/
structure ShedPayload where
  reason   : Byte
  holdTime : Half
  deriving DecidableEq, Repr

/-- The pull-up and the pull-down code of one open-wire test (R142). -/
structure WireTest where
  pullUp   : Code
  pullDown : Code
  deriving DecidableEq, Repr

/-- One character on MRXD: the moment of its start bit, its eight data bits, and whether its stop bit was high (R102, R105). -/
structure Character where
  start  : Nat
  byte   : Byte
  framed : Bool
  deriving DecidableEq, Repr

/-- How a whole frame of `n` characters came over the line: the CRC received, and the moment of each character's start bit (R102,
R103). -/
structure Reception (n : Nat) where
  crc    : Half
  starts : Vector Nat n
  deriving DecidableEq, Repr

/-- Characters heard on MRXD up to a moment (R105). -/
structure Heard where
  t          : Nat
  characters : List Character
  deriving DecidableEq, Repr

/-- One constructor per row of spec/opcode_table.json, in the table's order. -/
inductive Instr where
  /-- READ_STATUS, port code 0x01 (R172). -/
  | readStatus (t : Nat)
  /-- READ_EVENTS, port code 0x02 (R176). -/
  | readEvents (t : Nat)
  /-- CLEAR_EVENTS, port code 0x03, with its four mask bytes (R177). -/
  | clearEvents (t : Nat) (mask : FlagSet)
  /-- WRITE_EVENT_MASK, port code 0x04, with its four mask bytes (R178). -/
  | writeEventMask (t : Nat) (mask : FlagSet)
  /-- WRITE_DEMAND, port code 0x10: two bytes of demand and one of class (R173). -/
  | writeDemand (t : Nat) (demand : Half) (cls : Byte)
  /-- WRITE_CAP, port code 0x11: two bytes of cap (R67, R173). -/
  | writeCap (t : Nat) (cap : Half)
  /-- SECTION_AHEAD, port code 0x12 (R92). -/
  | sectionAhead (t : Nat)
  /-- TRANSMIT_ON, port code 0x13 (R117). -/
  | transmitOn (t : Nat)
  /-- TRANSMIT_OFF, port code 0x14 (R116). -/
  | transmitOff (t : Nat)
  /-- RAISE, port code 0x20; `emlower` is whether EMLOWER_N is active (low) as the command is taken (R123). -/
  | raise (t : Nat) (emlower : Bool)
  /-- LOWER, port code 0x21 (R124). -/
  | lower (t : Nat)
  /-- CLEAR_FAULT, port code 0x22 (R134). -/
  | clearFault (t : Nat)
  /-- READ_PEER, port code 0x30, with its index byte (R42). -/
  | readPeer (t : Nat) (index : Byte)
  /-- READ_BUDGET, port code 0x31 (R22). -/
  | readBudget (t : Nat)
  /-- READ_HOLDS, port code 0x32 (R88). -/
  | readHolds (t : Nat)
  /-- READ_ARC, port code 0x33, with its index byte (R161). -/
  | readArc (t : Nat) (index : Byte)
  /-- READ_MEASUREMENTS, port code 0x34 (R151). -/
  | readMeasurements (t : Nat)
  /-- READ_CONFIG, port code 0x35 (R180). -/
  | readConfig (t : Nat)
  /-- READ_IDENTITY, port code 0x36 (R181). -/
  | readIdentity (t : Nat)
  /-- WARM_RESET, port code 0x3F (R183). -/
  | warmReset (t : Nat)
  /-- UNKNOWN_COMMAND: a command byte that is no code of section 12.2 (R171). -/
  | unknownCommand (t : Nat) (code : Byte)
  /-- TRANSACTION_ABANDONED: CS_N rose after these bytes, before the last parameter byte (R171). -/
  | transactionAbandoned (t : Nat) (bytes : List Byte)
  /-- WARM_RESET_TAKEN: CS_N rises at the end of a WARM RESET transaction (R182). -/
  | warmResetTaken (t : Nat)
  /-- WARM_N_FALL (R182). -/
  | warmNFall (t : Nat)
  /-- POWER_ON_RESET: RESET_N is low (R181). -/
  | powerOnReset
  /-- RESET_N_RELEASE (R181). -/
  | resetNRelease
  /-- CONFIGURATION_LOAD_END: the 64 bytes, or none for a read that did not complete (R179). -/
  | configurationLoadEnd (block : Option (Vector Byte 64))
  /-- SELFCHECK_END: the tests of channels 0 to 7 and the 18 samples of the first sweep (R148). -/
  | selfcheckEnd (t : Nat) (tests : Vector WireTest 8) (samples : Vector Code 18)
  /-- CYCLE_TICK (R45). -/
  | cycleTick (t : Nat)
  /-- LISTEN_TIMER_EXPIRY (R48). -/
  | listenTimerExpiry (t : Nat)
  /-- OVERFLOW_TIMER_EXPIRY (R33). -/
  | overflowTimerExpiry (t : Nat)
  /-- CROSSING_TIMER_EXPIRY (R97). -/
  | crossingTimerExpiry (t : Nat)
  /-- COLLAPSE_TIMER_EXPIRY (R85). -/
  | collapseTimerExpiry (t : Nat)
  /-- HOLD_EXPIRY: of the earliest entry (R81). -/
  | holdExpiry (t : Nat)
  /-- ENTRY_BECOMES_STALE: of the entry with this address (R36). -/
  | entryBecomesStale (t : Nat) (address : Address)
  /-- ENTRY_REMOVED_BY_AGE: of the entry with this address (R37). -/
  | entryRemovedByAge (t : Nat) (address : Address)
  /-- DEMAND_RECEIVED: the 20 characters of a DEMAND frame, with the CRC received and the moment each began (R103, R105 to R109). -/
  | demandReceived (t : Nat) (source : Address) (payload : DemandPayload) (line : Reception 20)
  /-- SUPPLY_RECEIVED: the 17 characters of a SUPPLY frame (R103, R105 to R109). -/
  | supplyReceived (t : Nat) (source : Address) (payload : SupplyPayload) (line : Reception 17)
  /-- SHED_RECEIVED: the 10 characters of a SHED frame (R79, R103, R105 to R109). -/
  | shedReceived (t : Nat) (source : Address) (payload : ShedPayload) (line : Reception 10)
  /-- DEPART_RECEIVED: the 7 characters of a DEPART frame (R38, R103, R105 to R109). -/
  | departReceived (t : Nat) (source : Address) (line : Reception 7)
  /-- RECEIVE_GAP_TIMEOUT: the characters since the last command of the line, and then no start bit (R105). -/
  | receiveGapTimeout (heard : Heard)
  /-- FRAME_DUE; `carrier` is whether MCD is active as it is read (R113). -/
  | frameDue (t : Nat) (carrier : Bool)
  /-- TRANSMISSION_END (R114). -/
  | transmissionEnd (t : Nat)
  /-- SWEEP_COMPLETE, with the 18 samples by position (R140, R141). -/
  | sweepComplete (t : Nat) (samples : Vector Code 18)
  /-- OPEN_WIRE_TEST_COMPLETE, of the channel named by the rotation (R143). -/
  | openWireTestComplete (t : Nat) (test : WireTest)
  /-- MEASUREMENT_PAIR_HANDED, with the channel 1 sample that ends the pair (R147, R157). -/
  | measurementPairHanded (t : Nat) (sample : Code)
  /-- ARC_START: a rising edge on ARC (R155). -/
  | arcStart (t : Nat)
  /-- ARC_END: a falling edge on ARC (R156). -/
  | arcEnd (t : Nat)
  /-- ARC_SATURATION (R156). -/
  | arcSaturation (t : Nat)
  /-- SECT_AHEAD_FALL (R90). -/
  | sectAheadFall (t : Nat)
  /-- EMLOWER_N_FALL (R132). -/
  | emlowerNFall (t : Nat)
  /-- CONTACT_QUALIFICATION_EXPIRY (R125). -/
  | contactQualificationExpiry (t : Nat)
  /-- RAISE_TIMER_EXPIRY (R126). -/
  | raiseTimerExpiry (t : Nat)
  /-- LOSS_TIMER_EXPIRY (R128, R130). -/
  | lossTimerExpiry (t : Nat)
  /-- IMBALANCE_TIMER_EXPIRY (R129). -/
  | imbalanceTimerExpiry (t : Nat)
  /-- UNLOAD_TIMER_EXPIRY (R130). -/
  | unloadTimerExpiry (t : Nat)
  /-- LOWER_TIMER_EXPIRY (R131). -/
  | lowerTimerExpiry (t : Nat)
  /-- OVER_TIMER_EXPIRY (R167). -/
  | overTimerExpiry (t : Nat)
  /-- REPEAT_TIMER_EXPIRY (R167). -/
  | repeatTimerExpiry (t : Nat)
  /-- RELEASE_TIMER_EXPIRY (R168). -/
  | releaseTimerExpiry (t : Nat)
  /-- PERIOD_BOUNDARY of the LIMIT PWM counter (R70, R72). -/
  | periodBoundary (t : Nat)
  /-- LSTB_PULSE_END (R73). -/
  | lstbPulseEnd (t : Nat)
  /-- ACTUATOR_PERIOD_BOUNDARY (R121). -/
  | actuatorPeriodBoundary (t : Nat)
  /-- FRAMING_ERROR: characters of a frame, the last one with a low stop bit (R105). -/
  | framingError (heard : Heard)
  /-- HEADER_TEST_FAILED: the characters of the frame up to the byte 0, 1 or 4 that fails its test (R106). -/
  | headerTestFailed (t : Nat) (characters : List Character)
  /-- CHANNEL_0_SAMPLE_HELD, with that sample (R147). -/
  | channel0SampleHeld (t : Nat) (sample : Code)
  /-- LIMIT_PULSE_END (R69). -/
  | limitPulseEnd (t : Nat)
  /-- ACTUATOR_PULSE_END (R121). -/
  | actuatorPulseEnd (t : Nat)
  deriving DecidableEq, Repr

end Sys2Proof
end

