-- ==== Sys2Proof/Decode.lean ====
section
/-! DEFINITION. Decoding: the command a transaction of the truck port spells (section 12.2), the header tests of the line (R106),
and `decodeTableWord`. No row of spec/opcode_table.json gives bits, so `decodeTableWord` answers none (notes/assumptions/5.md). -/

namespace Sys2Proof

/-- The table spells no command by bits of a word. -/
def decodeTableWord (_nbits _w : Nat) : Option Instr := none

/-- The parameter counts of section 12.2; none for a code that is not in the command set. -/
def paramCount (code : Byte) : Option Nat :=
  match code.toNat with
  | 0x01 | 0x02 => some 0
  | 0x03 | 0x04 => some 4
  | 0x10 => some 3
  | 0x11 => some 2
  | 0x12 | 0x13 | 0x14 => some 0
  | 0x20 | 0x21 | 0x22 => some 0
  | 0x30 => some 1
  | 0x31 | 0x32 => some 0
  | 0x33 => some 1
  | 0x34 | 0x35 | 0x36 => some 0
  | 0x3F => some 0
  | _ => none

/-- CS_N may rise after these bytes with the command not taken: at most the code and fewer parameters than it has (R171). -/
def incomplete (bytes : List Byte) : Bool :=
  match bytes with
  | [] => true
  | code :: params =>
    match paramCount code with
    | none => false
    | some n => decide (params.length < n)

/-- A command with no parameter bytes. -/
def takes0 (params : List Byte) (i : Instr) : Option Instr :=
  match params with
  | [] => some i
  | _ => none

/-- A command with one parameter byte. -/
def takes1 (params : List Byte) (f : Byte → Instr) : Option Instr :=
  match params with
  | [a] => some (f a)
  | _ => none

/-- A command with one parameter of two bytes, high byte first. -/
def takes2 (params : List Byte) (f : Half → Instr) : Option Instr :=
  match params with
  | [a, b] => some (f (a ++ b))
  | _ => none

/-- A command with a parameter of two bytes and one of one byte. -/
def takes3 (params : List Byte) (f : Half → Byte → Instr) : Option Instr :=
  match params with
  | [a, b, c] => some (f (a ++ b) c)
  | _ => none

/-- A command with a flag set of four bytes, bits 31 to 24 first (R176). -/
def takes4 (params : List Byte) (f : FlagSet → Instr) : Option Instr :=
  match params with
  | [a, b, c, d] => some (f (a ++ b ++ c ++ d))
  | _ => none

/-- The command taken when the last byte of `bytes` has been received (R171, section 12.2), at the moment `t` with EMLOWER_N as
`emlower` says; none while parameter bytes are still missing, and for more bytes than the command has. -/
def decodeTransaction (t : Nat) (emlower : Bool) (bytes : List Byte) : Option Instr :=
  match bytes with
  | [] => none
  | code :: params =>
    match code.toNat with
    | 0x01 => takes0 params (.readStatus t)
    | 0x02 => takes0 params (.readEvents t)
    | 0x03 => takes4 params (.clearEvents t)
    | 0x04 => takes4 params (.writeEventMask t)
    | 0x10 => takes3 params (.writeDemand t)
    | 0x11 => takes2 params (.writeCap t)
    | 0x12 => takes0 params (.sectionAhead t)
    | 0x13 => takes0 params (.transmitOn t)
    | 0x14 => takes0 params (.transmitOff t)
    | 0x20 => takes0 params (.raise t emlower)
    | 0x21 => takes0 params (.lower t)
    | 0x22 => takes0 params (.clearFault t)
    | 0x30 => takes1 params (.readPeer t)
    | 0x31 => takes0 params (.readBudget t)
    | 0x32 => takes0 params (.readHolds t)
    | 0x33 => takes1 params (.readArc t)
    | 0x34 => takes0 params (.readMeasurements t)
    | 0x35 => takes0 params (.readConfig t)
    | 0x36 => takes0 params (.readIdentity t)
    | 0x3F => takes0 params (.warmReset t)
    | _ => takes0 params (.unknownCommand t code)

/-- The two bytes of a parameter, high byte first (section 12.2). -/
def halfBytes (h : Half) : List Byte := [h.extractLsb' 8 8, h.extractLsb' 0 8]

/-- The four bytes of a flag set, bits 31 to 24 first (R176). -/
def flagBytes (f : FlagSet) : List Byte :=
  [f.extractLsb' 24 8, f.extractLsb' 16 8, f.extractLsb' 8 8, f.extractLsb' 0 8]

/-- The bytes the truck computer sends for a port command: its code and parameters (section 12.2); none for every other command. -/
def transactionBytes (i : Instr) : Option (List Byte) :=
  match i with
  | .readStatus _ => some [0x01]
  | .readEvents _ => some [0x02]
  | .clearEvents _ m => some (0x03 :: flagBytes m)
  | .writeEventMask _ m => some (0x04 :: flagBytes m)
  | .writeDemand _ d c => some (0x10 :: (halfBytes d ++ [c]))
  | .writeCap _ c => some (0x11 :: halfBytes c)
  | .sectionAhead _ => some [0x12]
  | .transmitOn _ => some [0x13]
  | .transmitOff _ => some [0x14]
  | .raise _ _ => some [0x20]
  | .lower _ => some [0x21]
  | .clearFault _ => some [0x22]
  | .readPeer _ i => some [0x30, i]
  | .readBudget _ => some [0x31]
  | .readHolds _ => some [0x32]
  | .readArc _ i => some [0x33, i]
  | .readMeasurements _ => some [0x34]
  | .readConfig _ => some [0x35]
  | .readIdentity _ => some [0x36]
  | .warmReset _ => some [0x3F]
  | .unknownCommand _ c => some [c]
  | .transactionAbandoned _ _ => none
  | .warmResetTaken _ => none
  | .warmNFall _ => none
  | .powerOnReset => none
  | .resetNRelease => none
  | .configurationLoadEnd _ => none
  | .selfcheckEnd _ _ _ => none
  | .cycleTick _ => none
  | .listenTimerExpiry _ => none
  | .overflowTimerExpiry _ => none
  | .crossingTimerExpiry _ => none
  | .collapseTimerExpiry _ => none
  | .holdExpiry _ => none
  | .entryBecomesStale _ _ => none
  | .entryRemovedByAge _ _ => none
  | .demandReceived _ _ _ _ => none
  | .supplyReceived _ _ _ _ => none
  | .shedReceived _ _ _ _ => none
  | .departReceived _ _ _ => none
  | .receiveGapTimeout _ => none
  | .frameDue _ _ => none
  | .transmissionEnd _ => none
  | .sweepComplete _ _ => none
  | .openWireTestComplete _ _ => none
  | .measurementPairHanded _ _ => none
  | .arcStart _ => none
  | .arcEnd _ => none
  | .arcSaturation _ => none
  | .sectAheadFall _ => none
  | .emlowerNFall _ => none
  | .contactQualificationExpiry _ => none
  | .raiseTimerExpiry _ => none
  | .lossTimerExpiry _ => none
  | .imbalanceTimerExpiry _ => none
  | .unloadTimerExpiry _ => none
  | .lowerTimerExpiry _ => none
  | .overTimerExpiry _ => none
  | .repeatTimerExpiry _ => none
  | .releaseTimerExpiry _ => none
  | .periodBoundary _ => none
  | .lstbPulseEnd _ => none
  | .actuatorPeriodBoundary _ => none
  | .framingError _ => none
  | .headerTestFailed _ _ => none
  | .channel0SampleHeld _ _ => none
  | .limitPulseEnd _ => none
  | .actuatorPulseEnd _ => none

/-- The payload length of a frame kind (R103, R106); none for a byte that is no kind. -/
def kindLength (kind : Byte) : Option Nat :=
  match kind.toNat with
  | 0x01 => some 13
  | 0x02 => some 10
  | 0x03 => some 3
  | 0x04 => some 0
  | _ => none

/-- The characters of a frame in assembly whose last one is the first to fail a header test of R106: byte 0 is not the start
marker, byte 1 is no kind, or byte 4 is not the length of the kind. -/
def headerFails (bytes : List Byte) : Bool :=
  match bytes with
  | [marker] => marker != 0xA5
  | [marker, kind] => marker == 0xA5 && (kindLength kind).isNone
  | [marker, kind, _, _, len] =>
    marker == 0xA5 && (kindLength kind).isSome && kindLength kind != some len.toNat
  | _ => false

end Sys2Proof
end

