-- ==== Sys2Proof/Machine/State.lean ====
section
/-! DEFINITION. The state of the TQ48, block by block (00_scope.md, section 3.2): plain data, holding every piece of state the spec
gives the part, and the queue of the commands that wait. Timers are held as the clock reading, in µs, at which they expire;
`none` is a stopped timer (notes/assumptions/3.md). -/

namespace Sys2Proof.Machine

/-- Why a step could stop. The spec gives every command an effect in every state, so no command raises a fault and the type has
no constructor: that is safe, since no behaviour of the part is hidden behind a stop. -/
inductive Fault where
  deriving DecidableEq, Repr

/-- Why a command could be refused by the model. -/
inductive Refusal where
  /-- Raised by an arm of `exec` whose command has no meaning yet; no arm raises it (safe: a stop hides no behaviour). -/
  | notModelled (mnemonic : String)
  deriving DecidableEq, Repr

/-- The stages of R181; `held` while RESET_N is low. -/
inductive Startup where
  | held
  | loading
  | selfCheck
  | ready
  deriving DecidableEq, Repr

/-- The sharing phase (R46). -/
inductive Phase where
  | offline
  | listen
  | active
  | crossing
  deriving DecidableEq, Repr

/-- The derived sharing mode (R52); `none` outside ACTIVE and in the feeder role. -/
inductive Mode where
  | none
  | sharing
  | held
  | degraded
  | silent
  deriving DecidableEq, Repr

/-- The crossing sub-state (R89). -/
inductive CrossSub where
  | none
  | drain
  | gap
  | dead
  deriving DecidableEq, Repr

/-- The pantograph state (R120). -/
inductive PantoState where
  | lowered
  | raising
  | contact
  | unloading
  | lowering
  | faulted
  deriving DecidableEq, Repr

/-- The feeder's overload state (R166). -/
inductive Overload where
  | normal
  | over
  | shedding
  deriving DecidableEq, Repr

/-- The truck variant part of a peer entry (R25). -/
structure TruckPart where
  sharingMode     : Nat
  weight          : Nat
  effectiveDemand : Nat
  floor           : Nat
  allocation      : Nat
  measured        : Nat
  voltage         : Nat
  deriving DecidableEq, Repr

/-- The feeder variant part of a peer entry (R25). -/
structure FeederPart where
  capacity      : Nat
  feederCurrent : Nat
  unaccounted   : Nat
  voltage       : Nat
  flags         : Byte
  deriving DecidableEq, Repr

/-- The variant part, which also says the entry's role (R25). -/
inductive PeerPart where
  | truck (p : TruckPart)
  | feeder (p : FeederPart)
  deriving DecidableEq, Repr

/-- A peer entry (R25). Its age is derived (R25); its freshness follows the age (R35), and in the one millisecond in which the age
reaches the threshold it also follows whether the transition has been taken (R36). -/
structure Peer where
  address   : Address
  period    : Nat
  lastHeard : Reading
  part      : PeerPart
  /-- ENTRY_BECOMES_STALE has been taken for the entry since its last accepted frame (R36). -/
  becameStale : Bool
  deriving DecidableEq, Repr

/-- A hold entry (R77). -/
structure Hold where
  origin : Address
  expiry : Reading
  reason : Byte
  deriving DecidableEq, Repr

/-- The budget record (R21). -/
structure BudgetRecord where
  capacity     : Nat
  unaccounted  : Nat
  staleReserve : Nat
  budget       : Nat
  sharers      : Nat
  securedSum   : Nat
  stage        : Nat
  dSelf        : Nat
  aSelf        : Nat
  target       : Nat
  limit        : Nat
  unallocated  : Nat
  deriving DecidableEq, Repr

/-- The Share Engine (00_scope.md 3.2; R2, R3, R21, R33, R44, R46, R84, R89). -/
structure ShareEngine where
  phase           : Phase
  requestedDemand : Nat
  demandClass     : Fin 4
  manualCap       : Nat
  budget          : BudgetRecord
  cycleTimer      : Option Nat
  listenTimer     : Option Nat
  /-- The overflow condition stands exactly while this timer runs (R33). -/
  overflowTimer   : Option Nat
  crossSub        : CrossSub
  crossTimer      : Option Nat
  collapseTimer   : Option Nat
  /-- The line-collapse episode flag (R86). -/
  episode         : Bool
  deriving DecidableEq, Repr

/-- What a frame carries besides its source (R103). -/
inductive Payload where
  | demand (p : DemandPayload)
  | supply (p : SupplyPayload)
  | shed (p : ShedPayload)
  | depart
  deriving DecidableEq, Repr

/-- A frame to send; its bytes, with the CRC, are fixed by its fields (R103, R104). -/
structure Frame where
  source  : Address
  payload : Payload
  deriving DecidableEq, Repr

/-- A full slot: one frame and its attempt count (R110). -/
structure Queued where
  frame    : Frame
  attempts : Nat
  deriving DecidableEq, Repr

/-- The three slots of the transmit queue (R110). -/
inductive Slot where
  | periodic
  | shed
  | depart
  deriving DecidableEq, Repr

/-- The transmitter (R111): waiting on a slot's frame until it falls due, or sending a frame since a moment. -/
inductive Transmitter where
  | idle
  | waiting (slot : Slot) (due : Nat)
  | sending (frame : Frame) (since : Nat)
  deriving DecidableEq, Repr

/-- The receive assembler (R105), with the bytes of the frame in assembly. -/
inductive Assembler where
  | waiting
  | assembling (bytes : List Byte)
  | hunting
  deriving DecidableEq, Repr

/-- The Carrier Link (Chapter 7 state table). -/
structure CarrierLink where
  assembler   : Assembler
  /-- Where the next gap is timed from, and the earliest start of a character that is taken: the end of the last character taken, or
  after an own transmission the earliest start of one still arriving as it ended (R105). -/
  listenFrom  : Nat
  periodic    : Option Queued
  shed        : Option Queued
  depart      : Option Queued
  /-- The queueing order of the urgent slots, read while both are full: the DEPART slot was filled first (R110). -/
  departFirst : Bool
  transmitter : Transmitter
  /-- The random generator (R112). -/
  lfsr        : BitVec 16
  txEnable    : Bool
  deriving DecidableEq, Repr

/-- The Limit Generator (Chapter 4 state table) and its outputs. The strobe mode is in the configuration; the PWM counter
is a view of the clock (R69). -/
structure LimitGenerator where
  limit           : Nat
  lastTarget      : Nat
  periodValue     : Nat
  markedValue     : Nat
  applicationMark : Bool
  /-- The clock reading of the next period boundary (R69). -/
  nextBoundary    : Nat
  limitOut        : Bool
  lstbOut         : Bool
  /-- The clock reading at which the present LSTB pulse ends (R72). -/
  lstbUntil       : Nat
  deriving DecidableEq, Repr

/-- The Pantograph Controller (R120) and its outputs (R121). The sensor-fault flag is a view of the OPEN flags (R133). -/
structure Pantograph where
  state            : PantoState
  holdDuty         : Nat
  raiseTimer       : Option Nat
  qualTimer        : Option Nat
  lossTimer        : Option Nat
  imbalanceTimer   : Option Nat
  unloadTimer      : Option Nat
  lowerTimer       : Option Nat
  /-- The contact-loss history, oldest first (R128). -/
  history          : List Reading
  imbalanceEpisode : Bool
  /-- The duty in force in the present actuator period (R121). -/
  dutyInForce      : Nat
  /-- ACT_DIR, high for up. -/
  actDirOut        : Bool
  actPwmOut        : Bool
  /-- The clock reading of the next actuator period boundary (R121). -/
  nextBoundary     : Nat
  deriving DecidableEq, Repr

/-- A measurement set: code and valid flag of channels 0 to 7 (R141). -/
structure MeasurementSet where
  codes : Vector Code 8
  valid : BitVec 8
  deriving DecidableEq, Repr

/-- What the Sweeper converts: nothing, the self-check's tests and first sweep, a sweep or a test, since a moment (R140, R142,
R148). -/
inductive Conversion where
  | stopped
  | selfCheck (since : Nat)
  | sweep (since : Nat)
  | test (since : Nat)
  deriving DecidableEq, Repr

/-- A channel 0 sample held for the measurement pair, and when its conversion began and ended (R147). -/
structure HeldSample where
  code  : Code
  begun : Nat
  since : Nat
  deriving DecidableEq, Repr

/-- The samples of a sweep that the part has at a moment, by position. -/
abbrev TakenSamples := Vector (Option Code) 18

/-- No sample of the sweep taken. -/
def noSamples : TakenSamples := Vector.replicate 18 none

/-- The Measurement Sweeper (Chapter 9 state table). -/
structure Sweeper where
  conversion    : Conversion
  published     : MeasurementSet
  openFlags     : BitVec 8
  sweepCounter  : Nat
  rotation      : Fin 8
  testPending   : Bool
  abortCount    : Nat
  /-- The pair request, with the moment of the request (R147). -/
  pairRequest   : Option Nat
  heldSample    : Option HeldSample
  /-- The samples of the sweep in progress that were taken for a measurement pair: they enter its means (R147). -/
  pairSamples   : TakenSamples
  selfCheckWord : BitVec 16
  deriving DecidableEq, Repr

/-- An arc record (R155), with the aged mark of R160. -/
structure ArcRecord where
  start        : ArcTime
  duration     : Option Nat
  pairReceived : Bool
  current      : Option Code
  voltage      : Option Code
  count        : Nat
  aged         : Bool
  deriving DecidableEq, Repr

/-- The Arc Monitor (Chapter 10 state table); the arc timebase is a view of the clock (R153). -/
structure ArcMonitor where
  pending : List ArcRecord
  /-- Oldest first (R158). -/
  log     : List ArcRecord
  storm   : Bool
  /-- The moment of the last warm reset, within which an arc start makes no record (R163). -/
  resetAt : Option Nat
  deriving DecidableEq, Repr

/-- The Feeder Role logic (R166). -/
structure FeederLogic where
  overload     : Overload
  overTimer    : Option Nat
  releaseTimer : Option Nat
  repeatTimer  : Option Nat
  repeatLapsed : Bool
  deriving DecidableEq, Repr

/-- The Truck Port (R171, R175). ALERT_N is a view of the flags and the mask (R178). -/
structure TruckPort where
  flags              : FlagSet
  fresh              : FlagSet
  mask               : FlagSet
  /-- The response buffer: the status byte and the data bytes of the last command taken (R171). -/
  response           : List Byte
  /-- A WARM RESET command was answered and its reset waits for the rise of CS_N (R182). -/
  warmResetRequested : Bool
  deriving DecidableEq, Repr

/-- The whole part. -/
structure State where
  startup    : Startup
  /-- µs since the end of the configuration load; the 1 ms timebase, the arc timebase, the LIMIT PWM counter and the actuator
  counter all start at that moment and are never restarted, so each is a view of this one count (R69, R121, R153, R181). -/
  clock      : Nat
  config     : Configuration
  loadResult : LoadResult
  share      : ShareEngine
  /-- The peer table, in ascending order of address (R26). -/
  peers      : List Peer
  /-- The hold list, earliest expiry first (R77). -/
  holds      : List Hold
  link       : CarrierLink
  lim        : LimitGenerator
  panto      : Pantograph
  sweeper    : Sweeper
  arc        : ArcMonitor
  feeder     : FeederLogic
  port       : TruckPort
  /-- The commands that wait, first in, first out. -/
  pending    : List Instr
  deriving DecidableEq, Repr

/-- The budget record after a reset: every field 0, stage 0 (R22). -/
def BudgetRecord.empty : BudgetRecord where
  capacity := 0
  unaccounted := 0
  staleReserve := 0
  budget := 0
  sharers := 0
  securedSum := 0
  stage := 0
  dSelf := 0
  aSelf := 0
  target := 0
  limit := 0
  unallocated := 0

/-- R2, R3, R22, R34, R44, R46, R87, R89. -/
def ShareEngine.powerOn : ShareEngine where
  phase := .offline
  requestedDemand := 0
  demandClass := 0
  manualCap := 4095
  budget := .empty
  cycleTimer := none
  listenTimer := none
  overflowTimer := none
  crossSub := .none
  crossTimer := none
  collapseTimer := none
  episode := false

/-- R118. -/
def CarrierLink.powerOn : CarrierLink where
  assembler := .waiting
  listenFrom := 0
  periodic := none
  shed := none
  depart := none
  departFirst := false
  transmitter := .idle
  lfsr := 0
  txEnable := true

/-- R75. -/
def LimitGenerator.powerOn : LimitGenerator where
  limit := 0
  lastTarget := 0
  periodValue := 0
  markedValue := 0
  applicationMark := false
  nextBoundary := limitPeriod
  limitOut := false
  lstbOut := false
  lstbUntil := 0

/-- R121, R136. -/
def Pantograph.powerOn : Pantograph where
  state := .lowered
  holdDuty := 0
  raiseTimer := none
  qualTimer := none
  lossTimer := none
  imbalanceTimer := none
  unloadTimer := none
  lowerTimer := none
  history := []
  imbalanceEpisode := false
  dutyInForce := 0
  actDirOut := false
  actPwmOut := false
  nextBoundary := actuatorPeriod

/-- R150. -/
def Sweeper.powerOn : Sweeper where
  conversion := .stopped
  published := { codes := #v[0, 0, 0, 0, 0, 0, 0, 0], valid := 0 }
  openFlags := 0
  sweepCounter := 0
  rotation := 0
  testPending := false
  abortCount := 0
  pairRequest := none
  heldSample := none
  pairSamples := noSamples
  selfCheckWord := 0

/-- R162. -/
def ArcMonitor.powerOn : ArcMonitor where
  pending := []
  log := []
  storm := false
  resetAt := none

/-- R170. -/
def FeederLogic.powerOn : FeederLogic where
  overload := .normal
  overTimer := none
  releaseTimer := none
  repeatTimer := none
  repeatLapsed := false

/-- R175. -/
def TruckPort.powerOn : TruckPort where
  flags := 0
  fresh := 0
  mask := 0
  response := []
  warmResetRequested := false

/-- Right after RESET_N is released: every piece of state at its power-on value and the configuration load in progress (R181).
The values the spec does not give are named in notes/assumptions/1.md. -/
def State.reset : State where
  startup := .loading
  clock := 0
  config := defaultConfiguration
  loadResult := .accepted
  share := .powerOn
  peers := []
  holds := []
  link := .powerOn
  lim := .powerOn
  panto := .powerOn
  sweeper := .powerOn
  arc := .powerOn
  feeder := .powerOn
  port := .powerOn
  pending := []

end Sys2Proof.Machine
end

