-- ==== Sys2Proof/Machine/Ops.lean ====
section
/-! DEFINITION. Operations every block shares: the passing of time, the views of the clock, timers, the configuration's views, the
published readings and the derived conditions (modes, freshness, sensor fault). -/

namespace Sys2Proof.Machine

/-- What a command answers. -/
abbrev Result := Host.Outcome State Fault Refusal

/-! ### Time (R69, R121, R153, R181) -/

/-- The timebases and the PWM counters run from the end of the configuration load (R181). -/
def State.running (s : State) : Bool := s.startup == .selfCheck || s.startup == .ready

/-- From the end of the self-check the part is ready (R181). -/
def State.isReady (s : State) : Bool := s.startup == .ready

/-- The command comes about at `t`: the clock is brought there, and never back. -/
def State.takenAt (t : Nat) (s : State) : State :=
  { s with clock := if s.running then max s.clock t else s.clock }

/-- The reading of the 48-bit 1 ms timebase (R181). -/
def State.now (s : State) : Reading := BitVec.ofNat 48 (s.clock / 1000)

/-- The reading of the 24-bit arc timebase (R153). -/
def State.arcNow (s : State) : ArcTime := BitVec.ofNat 24 (s.clock / 10)

/-- The LIMIT PWM counter (R69). -/
def State.pwmCounter (s : State) : Nat := s.clock % limitPeriod

/-- The actuator counter's step, 0 to 255 (R121). -/
def State.actuatorCounter (s : State) : Nat := (s.clock % actuatorPeriod) * 256 / actuatorPeriod

/-- The expiry of a timer of `ms` milliseconds started now. -/
def State.afterMs (s : State) (ms : Nat) : Option Nat := some (s.clock + 1000 * ms)

/-- Whether a timer is running and has run out. -/
def State.due (s : State) (timer : Option Nat) : Bool :=
  match timer with
  | some d => decide (d ≤ s.clock)
  | none => false

/-- Start a timer that is not running; one that runs is left running (R84, R122). -/
def State.startIfStopped (s : State) (timer : Option Nat) (ms : Nat) : Option Nat :=
  match timer with
  | some d => some d
  | none => s.afterMs ms

/-! ### Configuration -/

/-- The truck role (R180, byte 3 bit 0). -/
def State.isTruck (s : State) : Bool := s.config.role == .truck

/-- The own weight: the configured weight of the class held (R2). -/
def State.ownWeight (s : State) : Nat :=
  match s.share.demandClass with
  | 0 => s.config.weight0
  | 1 => s.config.weight1
  | 2 => s.config.weight2
  | 3 => s.config.weight3

/-! ### The published set and the OPEN flags (R139, R141, R143) -/

/-- The published code of a channel. -/
def State.code (s : State) (channel : Nat) : Nat := (s.sweeper.published.codes.toList.getD channel 0).toNat

/-- Whether a channel is valid in the published set. -/
def State.validChannel (s : State) (channel : Nat) : Bool := s.sweeper.published.valid.getLsbD channel

/-- Whether a channel's OPEN flag is set. -/
def State.openChannel (s : State) (channel : Nat) : Bool := s.sweeper.openFlags.getLsbD channel

/-- A head force in newtons (R139). -/
def State.headForce (s : State) (channel : Nat) : Nat := s.code channel / 4

/-- The feeder current in amperes (R139). -/
def State.feederCurrent (s : State) : Nat := 4 * s.code 0

/-- The sensor-fault flag: set while any of channels 2, 3 and 4 is OPEN, and always clear on a feeder (R133, R135). -/
def State.sensorFault (s : State) : Bool :=
  s.isTruck && (s.openChannel 2 || s.openChannel 3 || s.openChannel 4)

/-! ### Peer entries (R25, R35) -/

/-- The age of an entry in milliseconds (R25). -/
def Peer.age (p : Peer) (now : Reading) : Nat := (now - p.lastHeard).toNat

/-- The age at which an entry becomes STALE, in milliseconds (R35). -/
def Peer.staleAge (p : Peer) : Nat := 300 * p.period

/-- FRESH while the age is below 300 ms for each unit of the sender's period (R35). In the millisecond in which the age reaches
that, an event taken before the transition still sees the entry FRESH, and one taken after it sees it STALE (R36). -/
def Peer.isFresh (p : Peer) (now : Reading) : Bool :=
  decide (p.age now < p.staleAge) || (p.age now == p.staleAge && !p.becameStale)

/-- The role of an entry is truck (R25). -/
def Peer.isTruck (p : Peer) : Bool :=
  match p.part with
  | .truck _ => true
  | .feeder _ => false

/-! ### The conditions behind the modes (R52) -/

/-- The overflow condition (R33). -/
def State.overflowStands (s : State) : Bool := s.share.overflowTimer.isSome

/-- A DEGRADED condition stands: overflow, or channel 0 or 1 OPEN, on a truck (R56, R144). -/
def State.degradedStands (s : State) : Bool :=
  s.isTruck && (s.overflowStands || s.openChannel 0 || s.openChannel 1)

/-- The conditions of SILENT: transmit disabled or address 0x0000 (R54). -/
def State.muted (s : State) : Bool := !s.link.txEnable || s.config.address == 0

/-- The mode, derived afresh at every moment (R52). -/
def State.mode (s : State) : Mode :=
  if s.isTruck && s.share.phase == .active then
    if s.muted then .silent
    else if s.degradedStands then .degraded
    else if s.holds != [] then .held
    else .sharing
  else .none

/-- The conditions under which the floor is a local cap at a tick (R6). -/
def State.floorInForce (s : State) : Bool :=
  s.holds != [] || s.overflowStands || s.openChannel 0 || s.openChannel 1 || s.arc.storm

/-! ### The truck port's answer (R171) -/

/-- The status codes of R171. -/
inductive Status where
  | ok
  | notReady
  | unknownCommand
  | badParameter
  | busy
  | faulted
  | refused
  | wrongRole
  deriving DecidableEq, Repr

/-- The code of a status (R171). -/
def Status.byte (st : Status) : Byte :=
  match st with
  | .ok => 0x00
  | .notReady => 0x01
  | .unknownCommand => 0x02
  | .badParameter => 0x03
  | .busy => 0x04
  | .faulted => 0x05
  | .refused => 0x06
  | .wrongRole => 0x07

/-- Fill the response buffer: the status byte and the data bytes (R171). -/
def State.answer (s : State) (st : Status) (data : List Byte) : State :=
  { s with port := { s.port with response := st.byte :: data } }

/-- OK with no data bytes. -/
def State.answerOk (s : State) : State := s.answer .ok []

/-- A port command: not taken while RESET_N is low, answered NOT_READY before the part is ready, and by its own rule from
then on (R171, R181; notes/assumptions/6.md). -/
def onPort (t : Nat) (s : State) (body : State → State) : State :=
  let s := s.takenAt t
  match s.startup with
  | .held => s
  | .loading => s.answer .notReady []
  | .selfCheck => s.answer .notReady []
  | .ready => body s

/-- A port command that does not apply to a feeder station (R135, R170, R171). -/
def truckOnly (s : State) (body : State → State) : State :=
  if s.isTruck then body s else s.answer .wrongRole []

/-- The byte clocked out as byte `n` of the response phase, of which the first `early` bytes are clocked out before the response is
ready: those read 0xFF, the first one after them is the status byte, and past the end of the response they read 0x00 (R171). -/
def State.misoByte (s : State) (early n : Nat) : Byte :=
  if n < early then 0xFF else s.port.response.getD (n - early) 0x00

/-- CS_N rises: what is left of the response is discarded (R171). -/
def State.discardResponse (s : State) : State := { s with port := { s.port with response := [] } }

/-- A value of two bytes, high byte first (section 12.2). -/
def bytes2 (n : Nat) : List Byte := [BitVec.ofNat 8 (n / 256), BitVec.ofNat 8 n]

/-- A value of three bytes, high byte first (R174). -/
def bytes3 (n : Nat) : List Byte := BitVec.ofNat 8 (n / 65536) :: bytes2 n

/-- A value of one byte. -/
def byte1 (n : Nat) : Byte := BitVec.ofNat 8 n

/-- A flag as a bit of a byte. -/
def bitOf (b : Bool) : Nat := if b then 1 else 0

/-- A value below the range becomes the lowest of it, one above it the highest (00_scope.md, section 4.1). -/
def clampTo (lo hi v : Nat) : Nat := max lo (min hi v)

end Sys2Proof.Machine
end

