-- ==== Sys2Proof/Machine/Flags.lean ====
section
/-! DEFINITION. The event flags, the fresh set, the event mask and ALERT_N (R175 to R178), with the four commands over them. -/

namespace Sys2Proof.Machine

/-- The events of the table of R175. -/
inductive Event where
  | configDefault
  | selfcheckFail
  | contactMade
  | contactLost
  | repeatedLoss
  | noWire
  | unloadTimeout
  | actuatorFault
  | emergencyLower
  | sensorOpen
  | headImbalance
  | arcStorm
  | holdStart
  | tableOverflow
  | addressClash
  | crossDone
  | crossTimeout
  | txGiveup
  | shedSent
  | feederOverload
  deriving DecidableEq, Repr

/-- The bit of an event (R175). -/
def Event.bit (e : Event) : Nat :=
  match e with
  | .configDefault => 0
  | .selfcheckFail => 1
  | .contactMade => 2
  | .contactLost => 3
  | .repeatedLoss => 4
  | .noWire => 5
  | .unloadTimeout => 6
  | .actuatorFault => 7
  | .emergencyLower => 8
  | .sensorOpen => 9
  | .headImbalance => 10
  | .arcStorm => 11
  | .holdStart => 12
  | .tableOverflow => 13
  | .addressClash => 14
  | .crossDone => 15
  | .crossTimeout => 16
  | .txGiveup => 17
  | .shedSent => 18
  | .feederOverload => 19

/-- The flag set holding one event. -/
def Event.mask (e : Event) : FlagSet := 1#32 <<< e.bit

/-- An event is raised: its flag is set and joins the fresh set, whether or not it was set (R175). -/
def TruckPort.raise (p : TruckPort) (e : Event) : TruckPort :=
  { p with flags := p.flags ||| e.mask, fresh := p.fresh ||| e.mask }

/-- R175. -/
def State.raise (s : State) (e : Event) : State := { s with port := s.port.raise e }

/-- R175, where a rule raises an event under a condition. -/
def State.raiseIf (s : State) (b : Bool) (e : Event) : State := if b then s.raise e else s

/-- ALERT_N is low exactly while a flag set in the mask is set (R178). -/
def State.alerting (s : State) : Bool := s.port.flags &&& s.port.mask != 0

/-- The level of ALERT_N: high is true. -/
def State.alertN (s : State) : Bool := !s.alerting

/-- READ EVENTS: the flags and the fresh set as they stand, and the fresh set emptied (R176). -/
def execReadEvents (t : Nat) (s : State) : Result :=
  .next (onPort t s fun s =>
    let s := s.answer .ok (flagBytes s.port.flags ++ flagBytes s.port.fresh)
    { s with port := { s.port with fresh := 0 } })

/-- CLEAR EVENTS: each masked flag that is not in the fresh set is cleared (R177). -/
def execClearEvents (t : Nat) (mask : FlagSet) (s : State) : Result :=
  .next (onPort t s fun s =>
    let s := s.answerOk
    { s with port := { s.port with flags := s.port.flags &&& ~~~(mask &&& ~~~s.port.fresh) } })

/-- WRITE EVENT MASK (R178). -/
def execWriteEventMask (t : Nat) (mask : FlagSet) (s : State) : Result :=
  .next (onPort t s fun s =>
    let s := s.answerOk
    { s with port := { s.port with mask := mask } })

end Sys2Proof.Machine
end

