-- ==== Sys2Proof/Machine/Limit.lean ====
section
/-! DEFINITION. The Limit Generator (Chapter 4): targets, immediate caps, the LIMIT pulse and the LSTB strobe. -/

namespace Sys2Proof.Machine

/-- An LSTB pulse begins now and marks the period value in force (R72, R73); a pulse already running starts its 100 µs again. -/
def State.strobe (s : State) : State :=
  { s with lim := { s.lim with
      markedValue := s.lim.periodValue
      applicationMark := false
      lstbOut := true
      lstbUntil := s.clock + strobeWidth } }

/-- After the limit has been lowered: where it is below the period value, the present period is cut to it at once (R71), and
strobed at once in modes 1 and 2 (R73). -/
def State.cutPeriod (s : State) : State :=
  if s.lim.limit < s.lim.periodValue then
    let s := { s with lim := { s.lim with
      periodValue := s.lim.limit
      limitOut := s.lim.limitOut && decide (s.pwmCounter < s.lim.limit) } }
    if s.config.strobeMode == .off then s else s.strobe
  else s

/-- An immediate cap: the limit becomes the lesser of itself and the cap; the last target stays (R65). -/
def State.immediateCap (s : State) (cap : Nat) : State :=
  if cap < s.lim.limit then
    State.cutPeriod { s with lim := { s.lim with limit := cap } }
  else s

/-- The floor's immediate cap at the onset of a hold, an arc storm or DEGRADED (R66). -/
def State.floorOnset (s : State) : State := s.immediateCap s.config.floor

/-- The limit after a target: a rise by at most the ramp-up step, a fall taken whole (R64). -/
def rampedLimit (step limit target : Nat) : Nat :=
  if limit < target then min (limit + step) target else target

/-- A target application (R64); in strobe mode 2 it sets the application mark (R73). -/
def State.applyTarget (s : State) (target : Nat) : State :=
  State.cutPeriod { s with lim := { s.lim with
    limit := rampedLimit s.config.rampStep s.lim.limit target
    lastTarget := target
    applicationMark := s.lim.applicationMark || s.config.strobeMode == .everyApplication } }

/-- Whether a boundary gives an LSTB pulse, the period value being set (R72). -/
def State.boundaryStrobes (s : State) : Bool :=
  match s.config.strobeMode with
  | .off => false
  | .onChange => s.lim.periodValue != s.lim.markedValue
  | .everyApplication => s.lim.periodValue != s.lim.markedValue || s.lim.applicationMark

/-- A new LIMIT period begins: the period value takes the limit (R69, R70). -/
def State.beginLimitPeriod (s : State) : State :=
  { s with lim := { s.lim with
      periodValue := s.lim.limit
      limitOut := decide (0 < s.lim.limit)
      nextBoundary := (s.clock / limitPeriod + 1) * limitPeriod } }

/-- PERIOD_BOUNDARY (R69, R70, R72). -/
def execPeriodBoundary (t : Nat) (s : State) : Result :=
  let s := s.takenAt t
  .next (if s.running && decide (s.lim.nextBoundary ≤ s.clock) then
    let s := s.beginLimitPeriod
    if s.boundaryStrobes then s.strobe else s
  else s)

/-- LIMIT_PULSE_END: the counter reaches the period value and LIMIT goes low (R69). -/
def execLimitPulseEnd (t : Nat) (s : State) : Result :=
  let s := s.takenAt t
  .next (if s.lim.limitOut && decide (s.lim.nextBoundary + s.lim.periodValue ≤ s.clock + limitPeriod) then
    { s with lim := { s.lim with limitOut := false } }
  else s)

/-- LSTB_PULSE_END: the 100 µs have run out and LSTB goes low (R73). -/
def execLstbPulseEnd (t : Nat) (s : State) : Result :=
  let s := s.takenAt t
  .next (if s.lim.lstbOut && decide (s.lim.lstbUntil ≤ s.clock) then
    { s with lim := { s.lim with lstbOut := false } }
  else s)

/-- WRITE CAP: the cap, clamped to 4095, is stored and presented as an immediate cap (R67, R173). -/
def execWriteCap (t : Nat) (cap : Half) (s : State) : Result :=
  .next (onPort t s fun s =>
    let manual := min maxTruckCurrent cap.toNat
    let s := s.answerOk
    State.immediateCap { s with share := { s.share with manualCap := manual } } manual)

/-- The Limit Generator at a warm reset (R75): a period value above 0 is cut and strobed; otherwise LSTB is low. -/
def State.warmResetLimit (s : State) : State :=
  let strobes := decide (0 < s.lim.periodValue) && s.config.strobeMode != .off
  { s with lim := { s.lim with
      limit := 0
      lastTarget := 0
      periodValue := 0
      markedValue := 0
      applicationMark := false
      limitOut := false
      lstbOut := strobes
      lstbUntil := if strobes then s.clock + strobeWidth else s.lim.lstbUntil } }

end Sys2Proof.Machine
end

