-- ==== Sys2Proof/Machine/Arc.lean ====
section
/-! DEFINITION. The Arc Monitor (Chapter 10) and the Sweeper's side of an arc start and of the measurement pair (R145 to R147). -/

namespace Sys2Proof.Machine

/-- Edges of ARC are taken while the pantograph is RAISING, CONTACT, UNLOADING or LOWERING, from ready on (R154). -/
def State.arcGate (s : State) : Bool :=
  s.isReady && (match s.panto.state with
    | .lowered => false
    | .raising => true
    | .contact => true
    | .unloading => true
    | .lowering => true
    | .faulted => false)

/-- The age of a record in counts of 10 µs, modulo 2^24 (R153). -/
def ArcRecord.age (r : ArcRecord) (now : ArcTime) : Nat := (now - r.start).toNat

/-- A pending record is complete with a duration and its pair received (R158). -/
def ArcRecord.complete (r : ArcRecord) : Bool := r.duration.isSome && r.pairReceived

/-- The arc window in counts of 10 µs (R160). -/
def State.windowCounts (s : State) : Nat := 100 * s.config.arcWindow

/-- The log as a count finds it: a record at or above the window is marked aged for good (R160). -/
def markAged (window : Nat) (now : ArcTime) (log : List ArcRecord) : List ArcRecord :=
  log.map fun r => if window ≤ r.age now then { r with aged := true } else r

/-- The arc-storm count: the arc counts of the records within the window (R160). -/
def stormCount (log : List ArcRecord) : Nat := ((log.filter fun r => !r.aged).map (·.count)).sum

/-- The count taken, and the arc-storm flag set or cleared by it (R160); its setting raises ARC_STORM and lays the floor's
cap (R66). -/
def State.takeStormCount (s : State) : State :=
  let log := markAged s.windowCounts s.arcNow s.arc.log
  let count := stormCount log
  let s := { s with arc := { s.arc with log := log } }
  if s.arc.storm then
    if count ≤ s.config.stormThreshold / 2 then { s with arc := { s.arc with storm := false } } else s
  else if s.config.stormThreshold ≤ count then
    State.floorOnset ({ s with arc := { s.arc with storm := true } }.raise .arcStorm)
  else s

/-- A record enters the log after every record there; at 16 the oldest goes (R158). -/
def enterLog (log : List ArcRecord) (r : ArcRecord) : List ArcRecord :=
  if log.length < arcLogCapacity then log ++ [r] else log.drop 1 ++ [r]

/-- One record enters the log, followed by the count (R158). -/
def State.logRecord (s : State) (r : ArcRecord) : State :=
  State.takeStormCount { s with arc := { s.arc with log := enterLog s.arc.log r } }

/-- With these records pending, complete ones at the front move to the log, oldest first (R158). -/
def State.settleArcs (s : State) : List ArcRecord → State
  | [] => { s with arc := { s.arc with pending := [] } }
  | r :: rest =>
    if r.complete then (s.logRecord r).settleArcs rest
    else { s with arc := { s.arc with pending := r :: rest } }

/-- The pending records after an event: where it changed one, the complete ones move (R158); where it changed none, nothing
moves. -/
def State.changeArcs (s : State) (pending : List ArcRecord) : State :=
  if pending = s.arc.pending then s else s.settleArcs pending

/-- On entry to LOWERED the pending records move to the log as they stand, and the count is taken once (R159); with none pending
nothing enters and no count is taken. -/
def State.flushArcs (s : State) : State :=
  if s.arc.pending.isEmpty then s
  else
    State.takeStormCount { s with arc := { s.arc with
      log := s.arc.pending.foldl enterLog s.arc.log
      pending := [] } }

/-- Whether the channel 1 conversion after a held sample has ended: the pair is formed, and is handed in that same event (R147). -/
def HeldSample.paired (h : HeldSample) (clock : Nat) : Bool := decide (h.since + conversionTime ≤ clock)

/-- A new sweep starts at position 0, with no sample of it taken (R140). -/
def Sweeper.startSweep (w : Sweeper) (clock : Nat) : Sweeper := { w with conversion := .sweep clock, pairSamples := noSamples }

/-- A restart request to the Sweeper (R145 to R147): the pair request is set and a held sample discarded, but for one whose pair is
formed in the same instant and has still to be handed: the start's record receives that pair too (R163). A test is abandoned and
stays pending; a sweep starts afresh, at most four times in a row. -/
def Sweeper.restart (w : Sweeper) (clock : Nat) : Sweeper :=
  let w := { w with pairRequest := some clock, heldSample := w.heldSample.filter (·.paired clock) }
  match w.conversion with
  | .stopped => w
  | .selfCheck _ => w
  | .test _ => w.startSweep clock
  | .sweep _ => if w.abortCount < maxAborts then { w.startSweep clock with abortCount := w.abortCount + 1 } else w

/-- The arc count rises by 1 and stays at 255 (R155). -/
def ArcRecord.merged (r : ArcRecord) : ArcRecord := { r with count := min 255 (r.count + 1) }

/-- A new pending record (R155). -/
def newArc (now : ArcTime) : ArcRecord where
  start := now
  duration := none
  pairReceived := false
  current := none
  voltage := none
  count := 1
  aged := false

/-- The pending records after an arc start: a new record while fewer than 2 are pending, else merged into the newer (R155). -/
def startArc (now : ArcTime) (pending : List ArcRecord) : List ArcRecord :=
  match pending with
  | [] => [newArc now]
  | [r] => [r, newArc now]
  | r :: q :: rest => r :: q.merged :: rest

/-- The pending records after an arc start at this moment (R155): in the instant of a warm reset they stay as the reset left them
(R163). -/
def ArcMonitor.start (a : ArcMonitor) (clock : Nat) (now : ArcTime) : ArcMonitor :=
  if a.resetAt = some clock then a else { a with pending := startArc now a.pending }

/-- ARC_START (R145, R154, R155, R163). The Sweeper takes the request in the instant of a warm reset too, as R152 has it
(notes/assumptions/28.md). -/
def execArcStart (t : Nat) (s : State) : Result :=
  let s := s.takenAt t
  .next (if s.arcGate then
    { s with
      arc := s.arc.start s.clock s.arcNow
      sweeper := s.sweeper.restart s.clock }
  else s)

/-- The oldest record without a duration takes the one given (R156). -/
def timeOldest (duration : ArcRecord → Option Nat) : List ArcRecord → List ArcRecord
  | [] => []
  | r :: rest =>
    if r.duration.isNone then { r with duration := duration r } :: rest else r :: timeOldest duration rest

/-- ARC_END: now less the start time, at most 65535 (R154, R156, R158). -/
def execArcEnd (t : Nat) (s : State) : Result :=
  let s := s.takenAt t
  .next (if s.arcGate then
    s.changeArcs (timeOldest (fun r => some (min arcSaturationAge (r.age s.arcNow))) s.arc.pending)
  else s)

/-- ARC_SATURATION: the oldest record without a duration, at an age of 65535 counts, takes 65535 (R156). -/
def execArcSaturation (t : Nat) (s : State) : Result :=
  let s := s.takenAt t
  .next (s.changeArcs (timeOldest (fun r => if arcSaturationAge ≤ r.age s.arcNow then some arcSaturationAge else none)
    s.arc.pending))

/-- The channel 0 position of a sweep begun at `since` whose conversion is the first begun at or after `request` (R147). -/
def firstPosition (since request : Nat) : Nat :=
  let behind := request - since
  ((behind + 3 * conversionTime - 1) / (3 * conversionTime)) * 3

/-- A sample taken for a pair is a sample of its sweep as well (R147). -/
def Sweeper.keepSample (w : Sweeper) (k : Nat) (sample : Code) : Sweeper :=
  { w with pairSamples := w.pairSamples.setIfInBounds k (some sample) }

/-- The channel 0 sample of position `k` of the sweep begun at `since`, held for the pair (R147). -/
def Sweeper.holdSample (w : Sweeper) (since k : Nat) (sample : Code) (clock : Nat) : Sweeper :=
  { w.keepSample k sample with
    heldSample := some { code := sample, begun := since + conversionTime * k, since := clock } }

/-- CHANNEL_0_SAMPLE_HELD: the end of the first channel 0 conversion begun at or after the pair request (R147). -/
def execChannel0SampleHeld (t : Nat) (sample : Code) (s : State) : Result :=
  let s := s.takenAt t
  .next (match s.sweeper.conversion, s.sweeper.pairRequest, s.sweeper.heldSample with
    | .sweep since, some request, none =>
      let k := firstPosition since request
      if k ≤ 15 ∧ since + conversionTime * (k + 1) ≤ s.clock then
        { s with sweeper := s.sweeper.holdSample since k sample s.clock }
      else s
    | _, _, _ => s)

/-- A record that lacks its pair takes the pair's fields as they come (R157). -/
def ArcRecord.takePair (r : ArcRecord) (current voltage : Option Code) : ArcRecord :=
  if r.pairReceived then r else { r with pairReceived := true, current := current, voltage := voltage }

/-- The pair request after a pair is handed: cleared (R147), but for one set again by a start that was taken before the pair in the
same instant, once the channel 1 conversion had ended (R163). -/
def Sweeper.requestAfterPair (w : Sweeper) (h : HeldSample) : Option Nat := w.pairRequest.filter (h.paired ·)

/-- The channel 1 sample that ends a pair enters the sweep its held sample is of, at the position after it, while that sweep is in
progress (R147). -/
def Sweeper.keepPairEnd (w : Sweeper) (h : HeldSample) (sample : Code) : Sweeper :=
  match w.conversion with
  | .sweep since => if since ≤ h.begun then w.keepSample ((h.begun - since) / conversionTime + 1) sample else w
  | .stopped => w
  | .selfCheck _ => w
  | .test _ => w

/-- The Sweeper as it hands the pair (R147). -/
def Sweeper.handPair (w : Sweeper) (h : HeldSample) (sample : Code) : Sweeper :=
  { w.keepPairEnd h sample with pairRequest := w.requestAfterPair h, heldSample := none }

/-- MEASUREMENT_PAIR_HANDED: the channel 1 conversion after the held sample has ended; the pair goes to every pending record that
lacks one, and the pair request is cleared (R147, R157, R158, R163). A field is absent while its channel is OPEN. -/
def execMeasurementPairHanded (t : Nat) (sample : Code) (s : State) : Result :=
  let s := s.takenAt t
  .next (match s.sweeper.heldSample with
    | some held =>
      if held.paired s.clock then
        let current := if s.openChannel 0 then none else some held.code
        let voltage := if s.openChannel 1 then none else some sample
        let s := { s with sweeper := s.sweeper.handPair held sample }
        s.changeArcs (s.arc.pending.map fun r => r.takePair current voltage)
      else s
    | none => s)

/-- The presence bits of a record: duration, current, voltage (R174). -/
def ArcRecord.presence (r : ArcRecord) : Nat :=
  bitOf r.duration.isSome + 2 * bitOf r.current.isSome + 4 * bitOf r.voltage.isSome

/-- The 11 data bytes of a log record (R161, R174): an absent field reads 0. -/
def ArcRecord.data (r : ArcRecord) : List Byte :=
  bytes3 r.start.toNat ++ bytes2 (r.duration.getD 0) ++ bytes2 (r.current.getD 0).toNat ++ bytes2 (r.voltage.getD 0).toNat
  ++ [byte1 r.presence, byte1 r.count]

/-- READ ARC: the record at the index, newest first, or the empty marker; 16 and above is refused (R161, R174). -/
def execReadArc (t : Nat) (index : Byte) (s : State) : Result :=
  .next (onPort t s fun s =>
    if arcLogCapacity ≤ index.toNat then s.answer .badParameter []
    else
      match s.arc.log.reverse[index.toNat]? with
      | some r => s.answer .ok r.data
      | none => s.answer .ok (List.replicate 11 0))

end Sys2Proof.Machine
end

