-- ==== Sys2Proof/Machine/Wire.lean ====
section
/-! DEFINITION. The line: the CRC (R104), the frame layout (R103), the line time and MTXD (R102), and the reception tests on a whole
frame (R105 to R107). -/

namespace Sys2Proof.Machine

/-- One bit enters the CRC register (R104). -/
def crcBit (crc : BitVec 16) (bit : Bool) : BitVec 16 :=
  let shifted := crc <<< 1
  if crc.getLsbD 15 ^^ bit then shifted ^^^ 0x1021 else shifted

/-- One byte enters the CRC register, most significant bit first (R104). -/
def crcByte (crc : BitVec 16) (b : Byte) : BitVec 16 :=
  [7, 6, 5, 4, 3, 2, 1, 0].foldl (fun c k => crcBit c (b.getLsbD k)) crc

/-- The frame check over a run of bytes (R104). -/
def crc16 (bytes : List Byte) : BitVec 16 := bytes.foldl crcByte 0xFFFF

/-- Bytes 5 to 17 of a DEMAND (R103). -/
def demandBytes (p : DemandPayload) : List Byte :=
  [p.sharingMode, p.weight, p.period] ++ halfBytes p.effectiveDemand ++ halfBytes p.floor ++ halfBytes p.allocation
    ++ halfBytes p.measured ++ halfBytes p.voltage

/-- Bytes 5 to 14 of a SUPPLY (R103). -/
def supplyBytes (p : SupplyPayload) : List Byte :=
  [p.period] ++ halfBytes p.capacity ++ halfBytes p.feederCurrent ++ halfBytes p.unaccounted ++ halfBytes p.voltage ++ [p.flags]

/-- Bytes 5 to 7 of a SHED (R103). -/
def shedBytes (p : ShedPayload) : List Byte := p.reason :: halfBytes p.holdTime

/-- The kind byte of a payload (R103). -/
def payloadKind (p : Payload) : Byte :=
  match p with
  | .demand _ => 0x01
  | .supply _ => 0x02
  | .shed _ => 0x03
  | .depart => 0x04

/-- The payload's bytes (R103). -/
def payloadBytes (p : Payload) : List Byte :=
  match p with
  | .demand d => demandBytes d
  | .supply d => supplyBytes d
  | .shed d => shedBytes d
  | .depart => []

/-- Byte 1 to the last payload byte of a frame: what its CRC covers (R103). -/
def Frame.covered (f : Frame) : List Byte :=
  payloadKind f.payload :: (halfBytes f.source ++ (byte1 (payloadBytes f.payload).length :: payloadBytes f.payload))

/-- The CRC of a frame (R104). -/
def Frame.crc (f : Frame) : Half := crc16 f.covered

/-- A whole frame as sent (R103). -/
def Frame.bytes (f : Frame) : List Byte := 0xA5 :: (f.covered ++ halfBytes f.crc)

/-- The line time of a frame in µs: 10 bit times of 1/38,400 s for each byte, to the nearest µs as R102 tabulates it. -/
def Frame.lineTime (f : Frame) : Nat := (f.bytes.length * 6250 + 12) / 24

/-- The moment a frame begun at `since` has its last stop bit out. -/
def lineEnd (f : Frame) (since : Nat) : Nat := since + f.lineTime

/-- MTXEN is asserted exactly while a frame is on the line (R102, R114). -/
def State.mtxen (s : State) : Bool :=
  match s.link.transmitter with
  | .idle => false
  | .waiting _ _ => false
  | .sending _ _ => true

/-- The level on the line during bit time `n` of a run of characters: start bit low, eight data bits from the least significant,
stop bit high (R102). -/
def lineBit (bytes : List Byte) (n : Nat) : Bool :=
  match n % 10 with
  | 0 => decide (bytes.length ≤ n / 10)
  | 9 => true
  | k + 1 => if n / 10 < bytes.length then (bytes.getD (n / 10) 0xFF).getLsbD k else true

/-- The level of MTXD: high between frames, and the running frame's bits, 625/24 µs each (R102). -/
def State.mtxd (s : State) : Bool :=
  match s.link.transmitter with
  | .idle => true
  | .waiting _ _ => true
  | .sending f since => lineBit f.bytes ((s.clock - since) * 24 / 625)

/-- Characters on MRXD are taken from the end of the configuration load, and not while MTXEN is asserted (R40, R105). -/
def State.receiving (s : State) : Bool := s.running && !s.mtxen

/-! ### The receive assembler (R105) -/

/-- The bytes of a frame as they come over the line, with the CRC received (R103). -/
def Frame.received (f : Frame) (crc : Half) : List Byte := 0xA5 :: (f.covered ++ halfBytes crc)

/-- The characters of a frame as they come over the line, begun at these moments, every stop bit high (R102, R103). -/
def Frame.characters (f : Frame) (crc : Half) (starts : List Nat) : List Character :=
  List.zipWith (fun start byte => { start := start, byte := byte, framed := true }) starts (f.received crc)

/-- A frame in assembly is complete after 5 + length + 2 bytes (R105). -/
def frameComplete (bytes : List Byte) : Bool :=
  decide (5 ≤ bytes.length) && decide (7 + (bytes.getD 4 0).toNat ≤ bytes.length)

/-- The bytes of a frame with the character just received: the frame is dropped at the byte that fails a header test, complete, or
still in assembly (R105, R106). A complete frame's bytes are the second part. -/
def assembled (bytes : List Byte) : Assembler × Option (List Byte) :=
  if headerFails bytes then (.hunting, none)
  else if frameComplete bytes then (.waiting, some bytes)
  else (.assembling bytes, none)

/-- The table of R105: a character received by the assembler. A low stop bit drops the frame; in HUNTING every character is
discarded. -/
def Assembler.take (a : Assembler) (c : Character) : Assembler × Option (List Byte) :=
  match a with
  | .waiting => if c.framed then assembled [c.byte] else (.hunting, none)
  | .assembling bytes => if c.framed then assembled (bytes ++ [c.byte]) else (.hunting, none)
  | .hunting => (.hunting, none)

/-- The fields of a DEMAND from byte 5 on, and its CRC (R103). -/
def demandOf (source : Address) (bytes : List Byte) : Option (Frame × Half) :=
  match bytes with
  | [m, w, p, dh, dl, fh, fl, ah, al, ch, cl, vh, vl, kh, kl] =>
    some (⟨source, .demand ⟨m, w, p, dh ++ dl, fh ++ fl, ah ++ al, ch ++ cl, vh ++ vl⟩⟩, kh ++ kl)
  | _ => none

/-- The fields of a SUPPLY from byte 5 on, and its CRC (R103). -/
def supplyOf (source : Address) (bytes : List Byte) : Option (Frame × Half) :=
  match bytes with
  | [p, ch, cl, fh, fl, uh, ul, vh, vl, g, kh, kl] =>
    some (⟨source, .supply ⟨p, ch ++ cl, fh ++ fl, uh ++ ul, vh ++ vl, g⟩⟩, kh ++ kl)
  | _ => none

/-- The fields of a SHED from byte 5 on, and its CRC (R103). -/
def shedOf (source : Address) (bytes : List Byte) : Option (Frame × Half) :=
  match bytes with
  | [r, th, tl, kh, kl] => some (⟨source, .shed ⟨r, th ++ tl⟩⟩, kh ++ kl)
  | _ => none

/-- The CRC of a DEPART (R103). -/
def departOf (source : Address) (bytes : List Byte) : Option (Frame × Half) :=
  match bytes with
  | [kh, kl] => some (⟨source, .depart⟩, kh ++ kl)
  | _ => none

/-- The frame that complete bytes spell, with the CRC received (R103). -/
def frameOf (bytes : List Byte) : Option (Frame × Half) :=
  match bytes with
  | _ :: kind :: sh :: sl :: _ :: rest =>
    match kind.toNat with
    | 0x01 => demandOf (sh ++ sl) rest
    | 0x02 => supplyOf (sh ++ sl) rest
    | 0x03 => shedOf (sh ++ sl) rest
    | 0x04 => departOf (sh ++ sl) rest
    | _ => none
  | _ => none

/-- The tests on a complete frame (R106): the CRC, then the source address. -/
def frameValid (f : Frame) (crc : Half) : Bool := crc == f.crc && f.source != 0x0000 && f.source != 0xFFFF

end Sys2Proof.Machine
end

