-- ==== Sys2Proof/Machine/Link.lean ====
section
/-! DEFINITION. The Carrier Link's sending side (R110 to R117). -/

namespace Sys2Proof.Machine

/-- The slot's contents. -/
def CarrierLink.slot (l : CarrierLink) (k : Slot) : Option Queued :=
  match k with
  | .periodic => l.periodic
  | .shed => l.shed
  | .depart => l.depart

/-- The slot's contents replaced. -/
def CarrierLink.setSlot (l : CarrierLink) (k : Slot) (q : Option Queued) : CarrierLink :=
  match k with
  | .periodic => { l with periodic := q }
  | .shed => { l with shed := q }
  | .depart => { l with depart := q }

/-- The SHED and DEPART slots are the urgent slots (R110). -/
def Slot.isUrgent (k : Slot) : Bool :=
  match k with
  | .periodic => false
  | .shed => true
  | .depart => true

/-- The urgent slot next in queueing order (R110, R111). -/
def CarrierLink.nextUrgent (l : CarrierLink) : Option Slot :=
  match l.shed, l.depart with
  | none, none => none
  | some _, none => some .shed
  | none, some _ => some .depart
  | some _, some _ => if l.departFirst then some .depart else some .shed

/-- One step of the random generator (R112). -/
def lfsrStep (r : BitVec 16) : BitVec 16 :=
  (r >>> 1) ||| (if r.getLsbD 0 ^^ r.getLsbD 2 ^^ r.getLsbD 3 ^^ r.getLsbD 5 then 0x8000#16 else 0#16)

/-- A draw steps the register four times and then reads it (R112). -/
def lfsrDraw (r : BitVec 16) : BitVec 16 := lfsrStep (lfsrStep (lfsrStep (lfsrStep r)))

/-- The initial delay read from the register: 0 to 7 ms (R112). -/
def initialDelay (r : BitVec 16) : Nat := r.toNat % 8

/-- The backoff read from the register: 1 to 16 ms (R112). -/
def backoffDelay (r : BitVec 16) : Nat := r.toNat % 16 + 1

/-- The transmitter selects a frame (R111): the urgent frames in queueing order, due at once; then the periodic frame, due after
an initial delay; IDLE when every slot is empty. -/
def CarrierLink.select (l : CarrierLink) (clock : Nat) : CarrierLink :=
  match l.nextUrgent with
  | some k => { l with transmitter := .waiting k clock }
  | none =>
    match l.periodic with
    | some _ =>
      let r := lfsrDraw l.lfsr
      { l with lfsr := r, transmitter := .waiting .periodic (clock + 1000 * initialDelay r) }
    | none => { l with transmitter := .idle }

/-- After an empty slot was filled: an IDLE transmitter selects; an urgent frame takes precedence over a wait on the periodic
frame; otherwise the frame waits its turn (R111). -/
def CarrierLink.afterFill (l : CarrierLink) (k : Slot) (clock : Nat) : CarrierLink :=
  match l.transmitter with
  | .idle => l.select clock
  | .waiting .periodic _ => if k.isUrgent then l.select clock else l
  | .waiting .shed _ => l
  | .waiting .depart _ => l
  | .sending _ _ => l

/-- The queueing order as an urgent slot is filled from empty (R110). -/
def CarrierLink.noteOrder (l : CarrierLink) (k : Slot) : CarrierLink :=
  match k with
  | .periodic => l
  | .shed => { l with departFirst := l.depart.isSome }
  | .depart => { l with departFirst := !l.shed.isSome }

/-- A frame placed in a slot: a full slot's frame is replaced in place and its count, order and wait taken over; an empty slot is
filled with count 0 (R110). -/
def CarrierLink.place (l : CarrierLink) (k : Slot) (f : Frame) (clock : Nat) : CarrierLink :=
  match l.slot k with
  | some q => l.setSlot k (some { frame := f, attempts := q.attempts })
  | none => ((l.noteOrder k).setSlot k (some { frame := f, attempts := 0 })).afterFill k clock

/-- Whether the link takes the frames offered to it (R110, R116). -/
def State.linkTakes (s : State) : Bool := s.link.txEnable && s.config.address != 0

/-- A frame offered to the link: discarded while transmit is disabled or the own address is 0x0000 (R110, R116). -/
def State.offer (s : State) (k : Slot) (payload : Payload) : State :=
  if s.linkTakes then
    { s with link := s.link.place k { source := s.config.address, payload := payload } s.clock }
  else s

/-- The periodic slot emptied at once; a wait on it is abandoned and the next frame selected (R115). -/
def CarrierLink.emptyPeriodic (l : CarrierLink) (clock : Nat) : CarrierLink :=
  match l.transmitter with
  | .waiting .periodic _ => { l with periodic := none }.select clock
  | .waiting .shed _ => { l with periodic := none }
  | .waiting .depart _ => { l with periodic := none }
  | .idle => { l with periodic := none }
  | .sending _ _ => { l with periodic := none }

/-- R115. -/
def State.emptyPeriodic (s : State) : State := { s with link := s.link.emptyPeriodic s.clock }

/-- The limit of deferred attempts of a slot's frame (R113). -/
def Slot.attemptLimit (k : Slot) : Nat := if k.isUrgent then urgentAttempts else periodicAttempts

/-- A due frame with MCD inactive: it leaves its slot and is sent whole, and a frame in assembly is dropped (R105, R114). -/
def State.startSending (s : State) (k : Slot) (q : Queued) : State :=
  { s with link := { s.link.setSlot k none with
      transmitter := .sending q.frame s.clock
      assembler := .waiting } }

/-- A due frame with MCD active (R113): deferred, and dropped at its limit, with TX_GIVEUP for an urgent frame. -/
def State.deferFrame (s : State) (k : Slot) (q : Queued) : State :=
  if k.attemptLimit ≤ q.attempts + 1 then
    let s := s.raiseIf k.isUrgent .txGiveup
    { s with link := (s.link.setSlot k none).select s.clock }
  else
    let r := lfsrDraw s.link.lfsr
    { s with link := { s.link.setSlot k (some { q with attempts := q.attempts + 1 }) with
        lfsr := r
        transmitter := .waiting k (s.clock + 1000 * backoffDelay r) } }

/-- FRAME_DUE: the wait has ended and MCD is read (R113, R114). -/
def execFrameDue (t : Nat) (carrier : Bool) (s : State) : Result :=
  let s := s.takenAt t
  .next (match s.link.transmitter with
    | .waiting k due =>
      if due ≤ s.clock then
        match s.link.slot k with
        | some q => if carrier then s.deferFrame k q else s.startSending k q
        | none => { s with link := s.link.select s.clock }
      else s
    | .idle => s
    | .sending _ _ => s)

/-- The earliest start of a character still arriving at a moment: its end comes after it (R105). -/
def stillArriving (clock : Nat) : Nat := clock + 1 - characterTime

/-- TRANSMISSION_END: the last stop bit is out, MTXEN is released and the next frame selected (R114). Characters are taken again from
here on, the one still arriving first (R105). -/
def execTransmissionEnd (t : Nat) (s : State) : Result :=
  let s := s.takenAt t
  .next (match s.link.transmitter with
    | .sending f since =>
      if lineEnd f since ≤ s.clock then { s with link := { s.link.select s.clock with listenFrom := stillArriving s.clock } } else s
    | .idle => s
    | .waiting _ _ => s)

/-- TRANSMIT ON (R117). The mode follows the flag (R52). -/
def execTransmitOn (t : Nat) (s : State) : Result :=
  .next (onPort t s fun s =>
    let s := s.answerOk
    { s with link := { s.link with txEnable := true } })

/-- SILENT begins in ACTIVE: the limit is made 0 and the collapse timer stopped (R55, R84). -/
def State.enterSilent (s : State) : State :=
  let s := s.immediateCap 0
  { s with share := { s.share with collapseTimer := none } }

/-- TRANSMIT OFF (R116): with the flag set, the periodic slot is emptied, a truck in ACTIVE with an address queues its DEPART, and
the flag is cleared; in ACTIVE SILENT begins in the same event. -/
def execTransmitOff (t : Nat) (s : State) : Result :=
  .next (onPort t s fun s =>
    let s := s.answerOk
    if s.link.txEnable then
      let active := s.isTruck && s.share.phase == .active
      let s := s.emptyPeriodic
      let s := if active then s.offer .depart .depart else s
      let s := { s with link := { s.link with txEnable := false } }
      if active then s.enterSilent else s
    else s)

end Sys2Proof.Machine
end

