-- ==== Sys2Proof/Machine/Operands.lean ====
section
/-! DEFINITION. The operands of the commands as the part takes them: the clamping of received fields (R108), the fields of the
configuration block (R180) and the samples of a sweep by channel (R139 to R141). -/

namespace Sys2Proof.Machine

/-! ### Received frames (R108) -/

/-- The period of a received DEMAND or SUPPLY, 5 to 50 (R108). -/
def takenPeriod (b : Byte) : Nat := clampTo 5 50 b.toNat

/-- The sharing mode of a received DEMAND: outside 1 to 3 it is read as DEGRADED (R108). -/
def takenMode (b : Byte) : Nat := if 1 ≤ b.toNat ∧ b.toNat ≤ 3 then b.toNat else 3

/-- A received DEMAND's payload, each field clamped on its own (R108). -/
def takenDemand (p : DemandPayload) : TruckPart where
  sharingMode := takenMode p.sharingMode
  weight := clampTo 1 15 p.weight.toNat
  effectiveDemand := min maxTruckCurrent p.effectiveDemand.toNat
  floor := min maxFloor p.floor.toNat
  allocation := min maxTruckCurrent p.allocation.toNat
  measured := min maxTruckCurrent p.measured.toNat
  voltage := p.voltage.toNat

/-- A received SUPPLY's payload, each field clamped on its own (R108). -/
def takenSupply (p : SupplyPayload) : FeederPart where
  capacity := min maxSectionCurrent p.capacity.toNat
  feederCurrent := min maxSectionCurrent p.feederCurrent.toNat
  unaccounted := min maxSectionCurrent p.unaccounted.toNat
  voltage := p.voltage.toNat
  flags := p.flags

/-- A received SHED's hold time, in units of 10 ms (R108). -/
def takenHold (p : ShedPayload) : Nat := min 500 p.holdTime.toNat

/-! ### Samples (R139 to R141) -/

/-- The positions at which a channel is converted in a sweep (R140). -/
def sweepPositions (channel : Nat) : List Nat :=
  match channel with
  | 0 => [0, 3, 6, 9, 12, 15]
  | 1 => [1, 4, 7, 10, 13, 16]
  | 2 => [2]
  | 3 => [5]
  | 4 => [8]
  | 5 => [11]
  | 6 => [14]
  | 7 => [17]
  | _ => []

/-- The code of a channel in a completed sweep: the mean of its samples, rounded down; for channels 2 to 7 that is the one
sample (R141). -/
def sweepCode (samples : Vector Code 18) (channel : Nat) : Code :=
  let taken := (sweepPositions channel).map fun k => (samples.toList.getD k 0).toNat
  BitVec.ofNat 12 (taken.sum / taken.length)

/-- The criterion of an open-wire test (R143). -/
def findsOpen (w : WireTest) : Bool := decide (4000 ≤ w.pullUp.toNat) && decide (w.pullDown.toNat ≤ 95)

/-! ### The configuration block (R180) -/

/-- Byte `i` of a block. -/
def blockByte (block : List Byte) (i : Nat) : Nat := (block.getD i 0).toNat

/-- Two bytes of a block from byte `i`, high byte first. -/
def blockWord (block : List Byte) (i : Nat) : Nat := 256 * blockByte block i + blockByte block (i + 1)

/-- The clamped fields of the block: where each stands, and its range (R180). -/
structure BlockField where
  raw : Nat
  lo  : Nat
  hi  : Nat

/-- The value used for a field. -/
def BlockField.used (f : BlockField) : Nat := clampTo f.lo f.hi f.raw

/-- A field of one byte. -/
def byteField (block : List Byte) (i lo hi : Nat) : BlockField := ⟨blockByte block i, lo, hi⟩

/-- A field of two bytes. -/
def wordField (block : List Byte) (i lo hi : Nat) : BlockField := ⟨blockWord block i, lo, hi⟩

/-- Byte 3, bits 1 and 2. -/
def strobeField (block : List Byte) : BlockField := ⟨blockByte block 3 / 2 % 4, 0, 2⟩
/-- Byte 3, bits 3 to 7. -/
def stormField (block : List Byte) : BlockField := ⟨blockByte block 3 / 8, 2, 16⟩
/-- Bytes 7 and 8: the weight of a class, in the high or the low half of its byte. -/
def weightField (block : List Byte) (cls : Nat) : BlockField :=
  ⟨if cls % 2 = 0 then blockByte block (7 + cls / 2) / 16 else blockByte block (7 + cls / 2) % 16, 1, 15⟩

/-- Every clamped field of the table of R180, in its order. -/
def blockFields (b : List Byte) : List BlockField :=
  [strobeField b, stormField b, byteField b 4 5 50, wordField b 5 100 5000,
   weightField b 0, weightField b 1, weightField b 2, weightField b 3,
   wordField b 9 0 1023, wordField b 11 100 4095, wordField b 13 10 1000, wordField b 15 0 16383]
  ++ [wordField b 17 0 4095, wordField b 19 0 4095, wordField b 21 0 4095, wordField b 23 0 4095,
   wordField b 25 0 500, wordField b 27 100 5000, wordField b 29 500 10000, wordField b 31 500 10000]
  ++ [wordField b 33 0 1023, wordField b 35 0 1023, wordField b 37 0 1023, wordField b 39 0 1023,
   byteField b 41 1 100, wordField b 42 0 1023, byteField b 44 0 255, byteField b 45 0 255]
  ++ [byteField b 46 0 255, byteField b 47 0 255, byteField b 48 0 255, byteField b 49 1 32,
   wordField b 50 0 4095, wordField b 52 0 4095, wordField b 54 100 10000, wordField b 56 100 5000]
  ++ [wordField b 58 100 5000, wordField b 60 1000 30000]

/-- The strobe mode of its code. -/
def strobeModeOf (n : Nat) : StrobeMode :=
  match n with
  | 0 => .off
  | 1 => .onChange
  | _ => .everyApplication

/-- The code of a strobe mode. -/
def strobeCode (m : StrobeMode) : Nat :=
  match m with
  | .off => 0
  | .onChange => 1
  | .everyApplication => 2

/-- The station address: 0xFFFF is replaced by 0x0000 (R180). -/
def blockAddress (b : List Byte) : Address :=
  if blockWord b 1 = 0xFFFF then 0 else BitVec.ofNat 16 (blockWord b 1)

/-- An accepted block taken field by field, before the two corrections (R180). -/
def blockConfiguration (b : List Byte) : Configuration where
  address := blockAddress b
  role := if blockByte b 3 % 2 = 1 then .feeder else .truck
  strobeMode := strobeModeOf (strobeField b).used
  stormThreshold := (stormField b).used
  period := (byteField b 4 5 50).used
  listenTime := (wordField b 5 100 5000).used
  weight0 := (weightField b 0).used
  weight1 := (weightField b 1).used
  weight2 := (weightField b 2).used
  weight3 := (weightField b 3).used
  floor := (wordField b 9 0 1023).used
  rating := (wordField b 11 100 4095).used
  rampStep := (wordField b 13 10 1000).used
  capacity := (wordField b 15 0 16383).used
  vMin := (wordField b 17 0 4095).used
  vKnee := (wordField b 19 0 4095).used
  vCollapse := (wordField b 21 0 4095).used
  vDead := (wordField b 23 0 4095).used
  releaseCurrent := (wordField b 25 0 500).used
  unloadTimeout := (wordField b 27 100 5000).used
  raiseTimeout := (wordField b 29 500 10000).used
  lowerTimeout := (wordField b 31 500 10000).used
  contactThreshold := (wordField b 33 0 1023).used
  windowLow := (wordField b 35 0 1023).used
  windowHigh := (wordField b 37 0 1023).used
  lossThreshold := (wordField b 39 0 1023).used
  lossTime := (byteField b 41 1 100).used
  imbalanceLimit := (wordField b 42 0 1023).used
  raiseDuty := (byteField b 44 0 255).used
  lowerDuty := (byteField b 45 0 255).used
  holdStart := (byteField b 46 0 255).used
  holdMin := (byteField b 47 0 255).used
  holdMax := (byteField b 48 0 255).used
  holdStep := (byteField b 49 1 32).used
  topStop := (wordField b 50 0 4095).used
  loweredThreshold := (wordField b 52 0 4095).used
  arcWindow := (wordField b 54 100 10000).used
  collapseHold := (wordField b 56 100 5000).used
  feederHold := (wordField b 58 100 5000).used
  crossingTimeout := (wordField b 60 1000 30000).used

/-- V_knee at or below V_min is taken as V_min + 100 (R180). -/
def correctKnee (c : Configuration) : Configuration :=
  if c.vKnee ≤ c.vMin then { c with vKnee := c.vMin + 100 } else c

/-- V_collapse above V_min is taken as V_min (R180). -/
def correctCollapse (c : Configuration) : Configuration :=
  if c.vMin < c.vCollapse then { c with vCollapse := c.vMin } else c

/-- The configuration an accepted block gives (R180). -/
def acceptedConfiguration (b : List Byte) : Configuration := correctCollapse (correctKnee (blockConfiguration b))

/-- Whether a field was clamped, the address replaced, or V_knee or V_collapse corrected (R179, R180). -/
def blockAdjusted (b : List Byte) : Bool :=
  (blockFields b).any (fun f => f.used != f.raw) || blockWord b 1 == 0xFFFF
    || acceptedConfiguration b != blockConfiguration b

/-- The 62 bytes of READ CONFIG, every value as the part uses it, with byte 0 reading 0x01 (R180). -/
def configBytes (c : Configuration) : List Byte :=
  byte1 1 :: (bytes2 c.address.toNat
  ++ [byte1 (bitOf (c.role == .feeder) + 2 * strobeCode c.strobeMode + 8 * c.stormThreshold), byte1 c.period]
  ++ bytes2 c.listenTime ++ [byte1 (16 * c.weight0 + c.weight1), byte1 (16 * c.weight2 + c.weight3)]
  ++ bytes2 c.floor ++ bytes2 c.rating ++ bytes2 c.rampStep ++ bytes2 c.capacity
  ++ bytes2 c.vMin ++ bytes2 c.vKnee ++ bytes2 c.vCollapse ++ bytes2 c.vDead ++ bytes2 c.releaseCurrent
  ++ bytes2 c.unloadTimeout ++ bytes2 c.raiseTimeout ++ bytes2 c.lowerTimeout ++ bytes2 c.contactThreshold
  ++ bytes2 c.windowLow ++ bytes2 c.windowHigh ++ bytes2 c.lossThreshold ++ [byte1 c.lossTime]
  ++ bytes2 c.imbalanceLimit ++ [byte1 c.raiseDuty, byte1 c.lowerDuty, byte1 c.holdStart, byte1 c.holdMin,
    byte1 c.holdMax, byte1 c.holdStep]
  ++ bytes2 c.topStop ++ bytes2 c.loweredThreshold ++ bytes2 c.arcWindow ++ bytes2 c.collapseHold
  ++ bytes2 c.feederHold ++ bytes2 c.crossingTimeout)

end Sys2Proof.Machine
end

