-- ==== Sys2Proof/Machine/Feeder.lean ====
section
/-! DEFINITION. The Feeder Role logic (Chapter 11). -/

namespace Sys2Proof.Machine

/-- The over threshold: C + floor(C / 16) (R166). -/
def State.overThreshold (s : State) : Nat := s.config.capacity + s.config.capacity / 16

/-- The release threshold: C − floor(C / 8) (R166). -/
def State.releaseThreshold (s : State) : Nat := s.config.capacity - s.config.capacity / 8

/-- A published set counts for overload with channels 0 and 1 both valid (R166). -/
def State.overloadCounted (s : State) : Bool := s.validChannel 0 && s.validChannel 1

/-- The counted feeder current stands above the over threshold. -/
def State.overCurrent (s : State) : Bool := s.overloadCounted && decide (s.overThreshold < s.feederCurrent)

/-- The hold time of the feeder's shed in units of 10 ms (R167). -/
def State.shedUnits (s : State) : Nat := s.config.feederHold / 10

/-- The feeder offers a SHED, and SHED_SENT is raised where the link takes it (R167, R168). -/
def State.callShed (s : State) (units : Nat) : State :=
  let taken := s.linkTakes
  let s := s.offer .shed (.shed { reason := 1, holdTime := BitVec.ofNat 16 units })
  s.raiseIf taken .shedSent

/-- A further SHED, with the repeat timer restarted and the lapsed flag clear (R167). -/
def State.repeatShed (s : State) : State :=
  let s := s.callShed s.shedUnits
  { s with feeder := { s.feeder with repeatTimer := s.afterMs (10 * s.shedUnits), repeatLapsed := false } }

/-- A counted set in SHEDDING: a lapsed repeat is called again above the over threshold (R167). -/
def State.setInRepeat (s : State) : State :=
  if s.feeder.repeatLapsed && s.overCurrent then s.repeatShed else s

/-- A counted set in SHEDDING: the release timer is started or left running at or below the release threshold and stopped above
it (R166). -/
def State.setInRelease (s : State) : State :=
  { s with feeder := { s.feeder with releaseTimer :=
      if s.feederCurrent ≤ s.releaseThreshold then s.startIfStopped s.feeder.releaseTimer 200 else none } }

/-- A published set taken by a feeder (R166, R167); a set that does not count leaves state and timers as they stand. -/
def State.setInFeeder (s : State) : State :=
  if s.overloadCounted then
    match s.feeder.overload with
    | .normal =>
      if s.overCurrent then { s with feeder := { s.feeder with overload := .over, overTimer := s.afterMs 200 } } else s
    | .over =>
      if s.overCurrent then s else { s with feeder := { s.feeder with overload := .normal, overTimer := none } }
    | .shedding => s.setInRepeat.setInRelease
  else s

/-- OVER_TIMER_EXPIRY: SHEDDING, the shed called, FEEDER_OVERLOAD, the repeat timer started (R167). -/
def execOverTimerExpiry (t : Nat) (s : State) : Result :=
  let s := s.takenAt t
  .next (if s.feeder.overload == .over && s.due s.feeder.overTimer then
    let s := { s with feeder := { s.feeder with overload := .shedding, overTimer := none } }
    s.repeatShed.raise .feederOverload
  else s)

/-- REPEAT_TIMER_EXPIRY: a further SHED, or the repeat-lapsed flag set with the timer stopped (R167). -/
def execRepeatTimerExpiry (t : Nat) (s : State) : Result :=
  let s := s.takenAt t
  .next (if s.feeder.overload == .shedding && s.due s.feeder.repeatTimer then
    if s.overCurrent then s.repeatShed
    else { s with feeder := { s.feeder with repeatTimer := none, repeatLapsed := true } }
  else s)

/-- The overload state at rest: NORMAL, every timer stopped, the lapsed flag clear (R168 to R170). -/
def State.calmFeeder (s : State) : State := { s with feeder := .powerOn }

/-- RELEASE_TIMER_EXPIRY: the release SHED is queued and the state becomes NORMAL (R168). -/
def execReleaseTimerExpiry (t : Nat) (s : State) : Result :=
  let s := s.takenAt t
  .next (if s.feeder.overload == .shedding && s.due s.feeder.releaseTimer then (s.callShed 0).calmFeeder else s)

/-- The measurement is invalid while channel 0 or channel 1 is OPEN (R164, R169). -/
def State.measurementInvalid (s : State) : Bool := s.openChannel 0 || s.openChannel 1

/-- The measured current a FRESH truck entry announces; 0 for every other entry (R165). -/
def Peer.freshMeasured (p : Peer) (now : Reading) : Nat :=
  match p.part with
  | .truck d => if p.isFresh now then d.measured else 0
  | .feeder _ => 0

/-- The unaccounted current (R165): never below 0 nor above 16383. -/
def State.unaccounted (s : State) : Nat :=
  min maxSectionCurrent (s.feederCurrent - (s.peers.map fun p => p.freshMeasured s.now).sum)

/-- The flags byte of SUPPLY: bit 0 overload, bit 1 measurement invalid, the rest 0 (R103, R164). -/
def State.supplyFlags (s : State) : Byte := byte1 (bitOf (s.feeder.overload != .normal) + 2 * bitOf s.measurementInvalid)

/-- The SUPPLY of a tick (R164). -/
def State.supplyPayload (s : State) : SupplyPayload where
  period := byte1 s.config.period
  capacity := BitVec.ofNat 16 s.config.capacity
  feederCurrent := BitVec.ofNat 16 s.feederCurrent
  unaccounted := BitVec.ofNat 16 (if s.measurementInvalid then 0 else s.unaccounted)
  voltage := BitVec.ofNat 16 (s.code 1)
  flags := s.supplyFlags

/-- The feeder's cycle tick: SUPPLY placed in the periodic slot (R45, R164). -/
def State.feederTick (s : State) : State := s.offer .periodic (.supply s.supplyPayload)

end Sys2Proof.Machine
end

