-- ==== Sys2Proof/Machine/Table.lean ====
section
/-! DEFINITION. The peer table (Chapter 2): order, insertion, update, eviction, refusal, ageing and removal. -/

namespace Sys2Proof.Machine

/-- Whether an address is present. -/
def hasPeer (peers : List Peer) (a : Address) : Bool := peers.any fun p => p.address == a

/-- Insertion at the place the address calls for (R26). -/
def insertPeer (p : Peer) : List Peer → List Peer
  | [] => [p]
  | q :: rest => if p.address.toNat < q.address.toNat then p :: q :: rest else q :: insertPeer p rest

/-- The entry with the frame's address takes the frame's contents, in its place (R28, R29). -/
def updatePeer (p : Peer) (peers : List Peer) : List Peer := peers.map fun q => if q.address == p.address then p else q

/-- Removal of an address; the entries after it move up (R26, R38). -/
def removePeer (a : Address) (peers : List Peer) : List Peer := peers.filter fun q => q.address != a

/-- The STALE entry of the greatest age; of equal ages the one with the lowest address, that is the first (R31). -/
def oldestStale (now : Reading) : List Peer → Option Peer
  | [] => none
  | p :: rest =>
    match oldestStale now rest with
    | none => if p.isFresh now then none else some p
    | some q => if !p.isFresh now && decide (q.age now ≤ p.age now) then some p else some q

/-- A refusal (R32): TABLE_OVERFLOW, and on a truck the overflow timer started or restarted, with the floor's cap at the onset of
DEGRADED (R33, R56, R66). A feeder's condition is left as it is (R34). -/
def State.refusePeer (s : State) : State :=
  let s := s.raise .tableOverflow
  if s.isTruck then
    let stood := s.degradedStands
    let s := { s with share := { s.share with overflowTimer := s.afterMs (100 * s.config.period) } }
    if stood then s else s.floorOnset
  else s

/-- A DEMAND or SUPPLY accepted now (R28 to R32). -/
def State.takePeer (s : State) (p : Peer) : State :=
  if hasPeer s.peers p.address then { s with peers := updatePeer p s.peers }
  else if s.peers.length < peerCapacity then { s with peers := insertPeer p s.peers }
  else
    match oldestStale s.now s.peers with
    | some q => { s with peers := insertPeer p (removePeer q.address s.peers) }
    | none => s.refusePeer

/-- Whether an entry has reached the age at which it becomes STALE (R35, R36). -/
def Peer.ages (p : Peer) (now : Reading) : Bool := decide (p.staleAge ≤ p.age now)

/-- ENTRY_BECOMES_STALE: the entry whose age has reached 300 ms for each unit of its period is STALE from this event on, also for a
tick in the same millisecond; it raises no event (R36). -/
def execEntryBecomesStale (t : Nat) (address : Address) (s : State) : Result :=
  let s := s.takenAt t
  .next { s with peers := s.peers.map fun p =>
    if p.address == address && p.ages s.now then { p with becameStale := true } else p }

/-- Whether an entry has reached the age of removal (R37). -/
def Peer.expired (p : Peer) (now : Reading) : Bool := decide (1000 * p.period ≤ p.age now)

/-- ENTRY_REMOVED_BY_AGE: the entry goes at once where its age has reached 1000 ms for each unit of its period (R37). -/
def execEntryRemovedByAge (t : Nat) (address : Address) (s : State) : Result :=
  let s := s.takenAt t
  .next { s with peers := s.peers.filter fun p => !(p.address == address && p.expired s.now) }

/-- OVERFLOW_TIMER_EXPIRY: the overflow condition ends; the limit is not changed (R33). -/
def execOverflowTimerExpiry (t : Nat) (s : State) : Result :=
  let s := s.takenAt t
  .next (if s.due s.share.overflowTimer then { s with share := { s.share with overflowTimer := none } } else s)

/-- The role byte of READ PEER: 1 truck, 2 feeder (R174). -/
def Peer.roleByte (p : Peer) : Byte := if p.isTruck then 1 else 2

/-- The 28 data bytes of an entry (R42, R174): the fields of the variant part it does not hold read 0. An
entry read in the millisecond of its removal, before it, reports the age it is removed at (notes/assumptions/32.md). -/
def Peer.data (p : Peer) (now : Reading) : List Byte :=
  bytes2 p.address.toNat ++ [p.roleByte, byte1 p.period] ++ bytes2 (p.age now) ++ [if p.isFresh now then 1 else 2]
  ++ (match p.part with
    | .truck d =>
      [byte1 d.sharingMode, byte1 d.weight] ++ bytes2 d.effectiveDemand ++ bytes2 d.floor ++ bytes2 d.allocation
      ++ bytes2 d.measured ++ bytes2 d.voltage ++ List.replicate 9 0
    | .feeder d =>
      List.replicate 12 0 ++ bytes2 d.capacity ++ bytes2 d.feederCurrent ++ bytes2 d.unaccounted ++ bytes2 d.voltage
      ++ [d.flags])

/-- READ PEER: the entry at the index in address order, or the empty marker; 12 and above is refused (R42, R174). -/
def execReadPeer (t : Nat) (index : Byte) (s : State) : Result :=
  .next (onPort t s fun s =>
    if peerCapacity ≤ index.toNat then s.answer .badParameter []
    else
      match s.peers[index.toNat]? with
      | some p => s.answer .ok (p.data s.now)
      | none => s.answer .ok (List.replicate 28 0))

end Sys2Proof.Machine
end

