-- ==== Sys2Proof/Machine/Share.lean ====
section
/-! DEFINITION. The section budget and share computation (Chapter 1), and the cycle tick (R45). -/

namespace Sys2Proof.Machine

/-- The droop factor of a voltage (R4), 0 to 256. -/
def droopFactor (openVoltage : Bool) (vMin vKnee v : Nat) : Nat :=
  if openVoltage then 256
  else if vKnee ≤ v then 256
  else if v ≤ vMin then 0
  else 256 * (v - vMin) / (vKnee - vMin)

/-- The droop factor at a tick (R4): by the OPEN flag, so that from the test that finds channel 1 good to the next set it follows the
code kept from before (notes/assumptions/34.md). -/
def State.droop (s : State) : Nat := droopFactor (s.openChannel 1) s.config.vMin s.config.vKnee (s.code 1)

/-- The droop cap (R5). -/
def State.droopCap (s : State) : Nat := s.config.rating * s.droop / 256

/-- The local cap L: the least of rating, manual cap, droop cap and, where it is in force, the floor (R6). -/
def State.localCap (s : State) : Nat :=
  let l := min (min s.config.rating s.share.manualCap) s.droopCap
  if s.floorInForce then min l s.config.floor else l

/-- The effective demand d_self (R7). -/
def State.dSelf (s : State) : Nat := min s.share.requestedDemand s.localCap

/-- The feeder part of an entry that is a FRESH feeder (R8). -/
def Peer.freshFeeder (p : Peer) (now : Reading) : Option FeederPart :=
  match p.part with
  | .feeder d => if p.isFresh now then some d else none
  | .truck _ => none

/-- The FRESH feeder entry of the lowest address, the table being in address order (R8, R26). -/
def State.supplyingFeeder (s : State) : Option FeederPart := s.peers.findSome? fun p => p.freshFeeder s.now

/-- The capacity C (R8). -/
def State.budgetCapacity (s : State) : Nat :=
  match s.supplyingFeeder with
  | some d => d.capacity
  | none => s.config.capacity

/-- The unaccounted current U (R8). -/
def State.budgetUnaccounted (s : State) : Nat :=
  match s.supplyingFeeder with
  | some d => d.unaccounted
  | none => 0

/-- The allocation a STALE truck entry reserves; 0 for every other entry (R9). -/
def Peer.reserved (p : Peer) (now : Reading) : Nat :=
  match p.part with
  | .truck d => if p.isFresh now then 0 else d.allocation
  | .feeder _ => 0

/-- The stale reserve (R9). -/
def State.staleReserve (s : State) : Nat := (s.peers.map fun p => p.reserved s.now).sum

/-- The budget S (R10): the difference over the integers, set to 0 below 0 and to 16383 above it. -/
def State.budget (s : State) : Nat :=
  let difference : Int := (s.budgetCapacity : Int) - s.budgetUnaccounted - s.staleReserve
  min maxSectionCurrent difference.toNat

/-- A sharer (R11). -/
structure Sharer where
  own     : Bool
  address : Address
  demand  : Nat
  floor   : Nat
  weight  : Nat
  deriving DecidableEq, Repr

/-- The secured floor m_i (R12), which is also g_i (R14). -/
def Sharer.secured (i : Sharer) : Nat := min i.floor i.demand

/-- The excess e_i (R14). -/
def Sharer.excess (i : Sharer) : Nat := i.demand - i.secured

/-- The order of stage 5b by cross-multiplication, the lower address first at equal products (R15). -/
def Sharer.before (i j : Sharer) : Bool :=
  if i.excess * j.weight = j.excess * i.weight then decide (i.address.toNat < j.address.toNat)
  else decide (i.excess * j.weight < j.excess * i.weight)

/-- A sharer with its allocation. -/
structure Portion where
  sharer : Sharer
  amount : Nat
  deriving DecidableEq, Repr

/-- The division of the budget: the stage used (1 for 5a, 2 for 5b), the allocations and the unallocated amount. -/
structure Division where
  stage       : Nat
  portions    : List Portion
  unallocated : Nat
  deriving DecidableEq, Repr

/-- The sharer a FRESH truck entry is (R11). -/
def Peer.sharer (p : Peer) (now : Reading) : Option Sharer :=
  match p.part with
  | .truck d =>
    if p.isFresh now then
      some { own := false, address := p.address, demand := d.effectiveDemand, floor := d.floor, weight := d.weight }
    else none
  | .feeder _ => none

/-- The own sharer (R11). -/
def State.ownSharer (s : State) : Sharer where
  own := true
  address := s.config.address
  demand := s.dSelf
  floor := s.config.floor
  weight := s.ownWeight

/-- The sharers at a tick (R11). -/
def State.sharers (s : State) : List Sharer := s.ownSharer :: s.peers.filterMap fun p => p.sharer s.now

/-- F, the sum of the secured floors (R12). -/
def securedSum (l : List Sharer) : Nat := (l.map Sharer.secured).sum

/-- Stage 5a (R13). -/
def floorsDivided (budget : Nat) (l : List Sharer) : List Portion :=
  l.map fun i => { sharer := i, amount := i.secured * budget / securedSum l }

/-- The sum of a list of allocations. -/
def allocated (l : List Portion) : Nat := (l.map (·.amount)).sum

/-- One sharer inserted in the order of R15. -/
def insertSharer (i : Sharer) : List Sharer → List Sharer
  | [] => [i]
  | j :: rest => if i.before j then i :: j :: rest else j :: insertSharer i rest

/-- The sharers in the order of R15. -/
def orderSharers (l : List Sharer) : List Sharer := l.foldr insertSharer []

/-- The residual a sharer receives in the final split (R17). -/
def splitPart (e w : Nat) (j : Sharer) : Nat := e * j.weight / w

/-- The final split (R17). -/
def finalSplit (e w : Nat) (l : List Sharer) : List Portion :=
  l.map fun j => { sharer := j, amount := j.secured + splitPart e w j }

/-- The walk of stage 5b over the ordered sharers with the residual `e` and the weight sum `w` (R16, R17): the allocations and the
unallocated amount (R18). -/
def waterFill : List Sharer → Nat → Nat → List Portion × Nat
  | [], e, _ => ([], e)
  | i :: rest, e, w =>
    if i.excess * w ≤ e * i.weight then
      let filled := waterFill rest (e - i.excess) (w - i.weight)
      ({ sharer := i, amount := i.secured + i.excess } :: filled.1, filled.2)
    else (finalSplit e w (i :: rest), e - ((i :: rest).map (splitPart e w)).sum)

/-- The weight sum W at the start of stage 5b (R14). -/
def weightSum (l : List Sharer) : Nat := (l.map (·.weight)).sum

/-- Stages 5a and 5b (R12 to R18). -/
def divideBudget (budget : Nat) (l : List Sharer) : Division :=
  if budget < securedSum l then
    let portions := floorsDivided budget l
    { stage := 1, portions := portions, unallocated := budget - allocated portions }
  else
    let filled := waterFill (orderSharers l) (budget - securedSum l) (weightSum l)
    { stage := 2, portions := filled.1, unallocated := filled.2 }

/-- The own sharer's allocation (R19). -/
def Division.own (d : Division) : Nat :=
  match d.portions.find? (·.sharer.own) with
  | some p => p.amount
  | none => 0

/-- The division of a tick. -/
def State.division (s : State) : Division := divideBudget s.budget s.sharers

/-- The target: a_self (R19). -/
def State.target (s : State) : Nat := s.division.own

/-- The mode codes of READ STATUS and of the DEMAND frame (R20, R62). -/
def Mode.code (m : Mode) : Nat :=
  match m with
  | .none => 0
  | .sharing => 1
  | .held => 2
  | .degraded => 3
  | .silent => 4

/-- The DEMAND of a tick (R20). -/
def State.demandPayload (s : State) : DemandPayload where
  sharingMode := byte1 s.mode.code
  weight := byte1 s.ownWeight
  period := byte1 s.config.period
  effectiveDemand := BitVec.ofNat 16 s.dSelf
  floor := BitVec.ofNat 16 s.config.floor
  allocation := BitVec.ofNat 16 s.target
  measured := BitVec.ofNat 16 (s.code 0)
  voltage := BitVec.ofNat 16 (s.code 1)

/-- The budget record of a tick, with the limit as the target's application left it (R21). -/
def State.budgetRecord (s : State) (limit : Nat) : BudgetRecord where
  capacity := s.budgetCapacity
  unaccounted := s.budgetUnaccounted
  staleReserve := s.staleReserve
  budget := s.budget
  sharers := s.sharers.length
  securedSum := securedSum s.sharers
  stage := s.division.stage
  dSelf := s.dSelf
  aSelf := s.target
  target := s.target
  limit := limit
  unallocated := s.division.unallocated

/-- A computing tick (R1, R19 to R21): target applied, DEMAND placed, record replaced, all from the state the tick finds. -/
def State.computingTick (s : State) : State :=
  let applied := (s.applyTarget s.target).offer .periodic (.demand s.demandPayload)
  { applied with share := { applied.share with budget := s.budgetRecord applied.lim.limit } }

/-- The tick of a truck by its phase and mode (R45): the share computation in ACTIVE, target 0 in SILENT, no target otherwise. -/
def State.shareTick (s : State) : State :=
  match s.mode with
  | .none => s
  | .silent => s.applyTarget 0
  | .degraded => s.computingTick
  | .held => s.computingTick
  | .sharing => s.computingTick

/-- The next expiry on the timer's own grid after the clock: one period after the expiry taken, where that lies ahead (R44). -/
def nextTick (period due clock : Nat) : Nat := due + period * ((clock - due) / period + 1)

/-- The cycle timer is started again for one full period, on the same spacing whatever the moment the tick is taken (R44). -/
def State.rearmCycle (s : State) : State :=
  let next := fun d => nextTick (10000 * s.config.period) d s.clock
  { s with share := { s.share with cycleTimer := s.share.cycleTimer.map next } }

/-- CYCLE_TICK (R45): the work of the role, and on a truck the arc-storm count after it (R160). -/
def execCycleTick (t : Nat) (s : State) : Result :=
  let s := s.takenAt t
  .next (if s.due s.share.cycleTimer then
    let s := s.rearmCycle
    if s.isTruck then s.shareTick.takeStormCount else s.feederTick
  else s)

/-- READ BUDGET: the 22 bytes of the record (R22, R174). -/
def execReadBudget (t : Nat) (s : State) : Result :=
  .next (onPort t s fun s =>
    let r := s.share.budget
    s.answer .ok (bytes2 r.capacity ++ bytes2 r.unaccounted ++ bytes2 r.staleReserve ++ bytes2 r.budget ++ [byte1 r.sharers]
      ++ bytes2 r.securedSum ++ [byte1 r.stage] ++ bytes2 r.dSelf ++ bytes2 r.aSelf ++ bytes2 r.target ++ bytes2 r.limit
      ++ bytes2 r.unallocated))

end Sys2Proof.Machine
end

