-- ==== Sys2Proof/Machine/Holds.lean ====
section
/-! DEFINITION. The hold list (Chapter 5): SHEDs taken, releases, expiries and READ HOLDS. -/

namespace Sys2Proof.Machine

/-- The remaining time of a hold in ms (R88). A hold lasts at most 5000 ms (R78), so a greater difference is an expiry that the
timebase has passed: nothing remains (notes/assumptions/16.md). A hold read in the millisecond of its expiry, before it is removed, has 0
remaining as well (notes/assumptions/32.md). -/
def Hold.remaining (h : Hold) (now : Reading) : Nat :=
  let d := (h.expiry - now).toNat
  if d ≤ 5000 then d else 0

/-- The order of the list: by expiry, and of equal expiries the lower origin first (R77). -/
def Hold.before (a b : Hold) (now : Reading) : Bool :=
  decide (a.remaining now < b.remaining now)
    || (a.remaining now == b.remaining now && decide (a.origin.toNat < b.origin.toNat))

/-- Insertion at the place the expiry calls for (R77). -/
def insertHold (h : Hold) (now : Reading) : List Hold → List Hold
  | [] => [h]
  | q :: rest => if h.before q now then h :: q :: rest else q :: insertHold h now rest

/-- Removal of an origin's entry. -/
def removeHold (o : Address) (holds : List Hold) : List Hold := holds.filter fun q => q.origin != o

/-- Whether an origin is present. -/
def hasHold (holds : List Hold) (o : Address) : Bool := holds.any fun q => q.origin == o

/-- The list after a SHED of `units` × 10 ms above 0, by the first case of R79 that applies. -/
def takenHolds (now : Reading) (o : Address) (units : Nat) (reason : Byte) (holds : List Hold) : List Hold :=
  let h : Hold := { origin := o, expiry := now + BitVec.ofNat 48 (10 * units), reason := reason }
  if hasHold holds o then insertHold h now (removeHold o holds)
  else if holds.length < holdCapacity then insertHold h now holds
  else
    match holds with
    | [] => insertHold h now []
    | first :: rest => if first.remaining now < 10 * units then insertHold h now rest else first :: rest

/-- The onset of a hold: HOLD_START and the floor's cap when the list goes from empty to non-empty (R82). -/
def State.withHolds (s : State) (holds : List Hold) : State :=
  let onset := s.holds.isEmpty && !holds.isEmpty
  let s := { s with holds := holds }
  if onset then (s.raise .holdStart).floorOnset else s

/-- A SHED taken by the hold list: a hold for a hold time above 0 (R79, R82), a release for 0 (R80). A feeder's list takes
none (R78). -/
def State.takeShed (s : State) (o : Address) (units : Nat) (reason : Byte) : State :=
  if s.isTruck then
    if units = 0 then { s with holds := removeHold o s.holds }
    else s.withHolds (takenHolds s.now o units reason s.holds)
  else s

/-- HOLD_EXPIRY: the earliest entry goes when the timebase has reached its expiry (R81). -/
def execHoldExpiry (t : Nat) (s : State) : Result :=
  let s := s.takenAt t
  .next (match s.holds with
    | [] => s
    | h :: rest => if h.remaining s.now = 0 then { s with holds := rest } else s)

/-- The reason as READ HOLDS reports it: 1, 2, or 0 for any other (R88). -/
def Hold.reportedReason (h : Hold) : Byte := if h.reason = 1 ∨ h.reason = 2 then h.reason else 0

/-- One position of READ HOLDS; a position beyond the last entry reads 0 throughout (R88, R174). -/
def holdPosition (now : Reading) (holds : List Hold) (k : Nat) : List Byte :=
  match holds[k]? with
  | some h => bytes2 h.origin.toNat ++ [h.reportedReason] ++ bytes2 (h.remaining now)
  | none => List.replicate 5 0

/-- READ HOLDS (R88, R174). -/
def execReadHolds (t : Nat) (s : State) : Result :=
  .next (onPort t s fun s =>
    s.answer .ok (byte1 s.holds.length :: ((List.range 4).map (holdPosition s.now s.holds)).flatten))

end Sys2Proof.Machine
end

