-- ==== Sys2Proof/Machine/Phases.lean ====
section
/-! DEFINITION. The sharing phases (Chapter 3), the crossing of a gap (Chapter 6) and the own shed on line collapse (Chapter 5). -/

namespace Sys2Proof.Machine

/-- The phase becomes LISTEN and the listen timer is started (R47, R51). -/
def State.enterListen (s : State) : State :=
  { s with share := { s.share with phase := .listen, listenTimer := s.afterMs s.config.listenTime } }

/-- The Share Engine when the pantograph enters CONTACT: a truck OFFLINE goes to LISTEN (R47). -/
def State.contactEntered (s : State) : State :=
  if s.isTruck && s.share.phase == .offline then s.enterListen else s

/-- The Share Engine when the pantograph leaves CONTACT (R49, R50, R84, R99): OFFLINE, with the listen timer, the crossing and the
collapse timer ended, the limit 0 and the periodic slot empty; `down` when the pantograph goes to UNLOADING or LOWERING, which
queues a DEPART from ACTIVE unless SILENT. A feeder's phase is not moved (R46). -/
def State.contactLeft (s : State) (down : Bool) : State :=
  if s.isTruck then
    let departs := down && s.share.phase == .active && s.mode != .silent
    let s := { s with share := { s.share with
      phase := .offline
      listenTimer := none
      crossSub := .none
      crossTimer := none
      collapseTimer := none } }
    let s := (s.immediateCap 0).emptyPeriodic
    if departs then s.offer .depart .depart else s
  else s

/-- LISTEN_TIMER_EXPIRY: in LISTEN the phase becomes ACTIVE (R48). -/
def execListenTimerExpiry (t : Nat) (s : State) : Result :=
  let s := s.takenAt t
  .next (if s.share.phase == .listen && s.due s.share.listenTimer then
    { s with share := { s.share with phase := .active, listenTimer := none } }
  else s)

/-- A crossing request (R91, R92): taken in ACTIVE, ignored in every other phase. -/
def State.requestCrossing (s : State) : State :=
  if s.isTruck && s.share.phase == .active then
    let departs := s.mode != .silent
    let s := (s.immediateCap 0).emptyPeriodic
    let s := if departs then s.offer .depart .depart else s
    { s with share := { s.share with
      phase := .crossing
      crossSub := .drain
      crossTimer := s.afterMs s.config.crossingTimeout
      collapseTimer := none } }
  else s

/-- SECTION AHEAD: a crossing request from the truck computer; OK whether or not it starts a crossing (R92). -/
def execSectionAhead (t : Nat) (s : State) : Result :=
  .next (onPort t s fun s => s.answerOk.requestCrossing)

/-- SECT_AHEAD_FALL: a crossing request from ready on (R90). -/
def execSectAheadFall (t : Nat) (s : State) : Result :=
  let s := s.takenAt t
  .next (if s.isReady then s.requestCrossing else s)

/-- The crossing completes (R96): table, overflow condition and hold list emptied, CROSS_DONE, LISTEN. -/
def State.completeCrossing (s : State) : State :=
  let s := { s with
    peers := []
    holds := []
    share := { s.share with overflowTimer := none, crossSub := .none, crossTimer := none } }
  (s.raise .crossDone).enterListen

/-- A published set taken by a crossing (R93 to R96): at most one step, on the present sub-state's condition alone. -/
def State.setInCrossing (s : State) : State :=
  let dead := s.validChannel 1 && decide (s.code 1 < s.config.vDead)
  match s.share.crossSub with
  | .none => s
  | .drain =>
    if (s.validChannel 0 && decide (s.code 0 ≤ s.config.releaseCurrent)) || (s.openChannel 0 && dead) then
      { s with share := { s.share with crossSub := .gap } }
    else s
  | .gap => if dead then { s with share := { s.share with crossSub := .dead } } else s
  | .dead => if s.validChannel 1 && decide (s.config.vMin ≤ s.code 1) then s.completeCrossing else s

/-- CROSSING_TIMER_EXPIRY: CROSS_TIMEOUT and LISTEN; table, holds and overflow condition are kept (R97). -/
def execCrossingTimerExpiry (t : Nat) (s : State) : Result :=
  let s := s.takenAt t
  .next (if s.share.phase == .crossing && s.due s.share.crossTimer then
    let s := { s with share := { s.share with crossSub := .none, crossTimer := none } }
    (s.raise .crossTimeout).enterListen
  else s)

/-- A published set taken by the collapse timer (R84). -/
def State.setInCollapse (s : State) : State :=
  if s.validChannel 1 && decide (s.code 1 < s.config.vCollapse) then
    if s.share.phase == .active && s.mode != .silent && !s.share.episode then
      { s with share := { s.share with collapseTimer := s.startIfStopped s.share.collapseTimer 20 } }
    else s
  else { s with share := { s.share with collapseTimer := none } }

/-- A valid voltage at or above V_min ends the episode (R86). -/
def State.setInEpisode (s : State) : State :=
  if s.validChannel 1 && decide (s.config.vMin ≤ s.code 1) then { s with share := { s.share with episode := false } } else s

/-- The Share Engine of a truck takes a published set (R84, R86, R93). -/
def State.setInShareEngine (s : State) : State :=
  let s := s.setInCollapse.setInEpisode
  if s.share.phase == .crossing then s.setInCrossing else s

/-- COLLAPSE_TIMER_EXPIRY: the own SHED is queued, the own hold placed, SHED_SENT raised and the episode flag set (R85). A timer that
ran when a test set channel 1 OPEN runs on until the next set stops it, and expires here if it falls due before that
(R84; notes/assumptions/27.md). -/
def execCollapseTimerExpiry (t : Nat) (s : State) : Result :=
  let s := s.takenAt t
  .next (if s.due s.share.collapseTimer then
    let units := s.config.collapseHold / 10
    let s := { s with share := { s.share with collapseTimer := none, episode := true } }
    let s := s.offer .shed (.shed { reason := 2, holdTime := BitVec.ofNat 16 units })
    (s.takeShed s.config.address units 2).raise .shedSent
  else s)

end Sys2Proof.Machine
end

