-- ==== Sys2Proof/Machine/Pantograph.lean ====
section
/-! DEFINITION. The Pantograph Controller (Chapter 8) and its actuator outputs. -/

namespace Sys2Proof.Machine

/-- ACT_DIR of a state: high for up (R120). -/
def PantoState.up (p : PantoState) : Bool :=
  match p with
  | .lowered => false
  | .raising => true
  | .contact => true
  | .unloading => true
  | .lowering => false
  | .faulted => false

/-- The duty of a state (R120). -/
def State.driveDuty (s : State) : Nat :=
  match s.panto.state with
  | .lowered => 0
  | .raising => s.config.raiseDuty
  | .contact => s.panto.holdDuty
  | .unloading => s.panto.holdDuty
  | .lowering => s.config.lowerDuty
  | .faulted => 0

/-- A state entered with every timer of the state left stopped (R120); the new state's own timer is started by the caller. -/
def Pantograph.enter (p : Pantograph) (state : PantoState) : Pantograph :=
  { p with
    state := state
    raiseTimer := none
    qualTimer := none
    lossTimer := none
    imbalanceTimer := none
    unloadTimer := none
    lowerTimer := none }

/-- RAISING, with the raise timer started (R123, R128). -/
def State.enterRaising (s : State) : State :=
  { s with panto := { s.panto.enter .raising with raiseTimer := s.afterMs s.config.raiseTimeout } }

/-- LOWERING, with the lower timer started (R124, R126, R130, R132, R133, R134). -/
def State.enterLowering (s : State) : State :=
  { s with panto := { s.panto.enter .lowering with lowerTimer := s.afterMs s.config.lowerTimeout } }

/-- UNLOADING, with the unload timer started (R124, R128, R133, R137); the loss timer as given (R130). -/
def State.enterUnloading (s : State) (lossTimer : Option Nat) : State :=
  { s with panto := { s.panto.enter .unloading with
      lossTimer := lossTimer
      unloadTimer := s.afterMs s.config.unloadTimeout } }

/-- LOWERED, and the Arc Monitor flushed (R120, R131, R159). -/
def State.enterLowered (s : State) : State := State.flushArcs { s with panto := s.panto.enter .lowered }

/-- A duty brought into the hold band: raised to hold min, then lowered to hold max (R127). -/
def holdBand (lo hi duty : Nat) : Nat := min hi (max lo duty)

/-- RAISE (R123). `emlower` is whether EMLOWER_N is active. -/
def execRaise (t : Nat) (emlower : Bool) (s : State) : Result :=
  .next (onPort t s fun s => truckOnly s fun s =>
    match s.panto.state with
    | .lowered => if s.sensorFault || emlower then s.answer .refused [] else s.answerOk.enterRaising
    | .raising => s.answerOk
    | .contact => s.answerOk
    | .unloading => s.answer .busy []
    | .lowering => s.answer .busy []
    | .faulted => s.answer .faulted [])

/-- LOWER (R124): from CONTACT to UNLOADING, leaving contact, with a running loss timer kept (R130); from RAISING to LOWERING. -/
def execLower (t : Nat) (s : State) : Result :=
  .next (onPort t s fun s => truckOnly s fun s =>
    match s.panto.state with
    | .contact => (s.answerOk.enterUnloading s.panto.lossTimer).contactLeft true
    | .raising => s.answerOk.enterLowering
    | .unloading => s.answerOk
    | .lowering => s.answerOk
    | .lowered => s.answerOk
    | .faulted => s.answer .faulted [])

/-- CLEAR FAULT (R134), by the position of the published set as it stands, also where no valid one has been published since power-on
(notes/assumptions/35.md). -/
def execClearFault (t : Nat) (s : State) : Result :=
  .next (onPort t s fun s => truckOnly s fun s =>
    match s.panto.state with
    | .faulted =>
      if s.openChannel 4 then s.answer .refused []
      else if s.code 4 ≤ s.config.loweredThreshold then s.answerOk.enterLowered
      else s.answerOk.enterLowering
    | .lowered => s.answerOk
    | .raising => s.answerOk
    | .contact => s.answerOk
    | .unloading => s.answerOk
    | .lowering => s.answerOk)

/-- CONTACT_QUALIFICATION_EXPIRY: CONTACT, with the hold duty at the hold start (R125, R127), and LISTEN (R47). -/
def execContactQualificationExpiry (t : Nat) (s : State) : Result :=
  let s := s.takenAt t
  .next (if s.panto.state == .raising && s.due s.panto.qualTimer then
    let s := { s with panto := { s.panto.enter .contact with
      holdDuty := holdBand s.config.holdMin s.config.holdMax s.config.holdStart } }
    (s.raise .contactMade).contactEntered
  else s)

/-- The raise ends without contact (R126). -/
def State.endRaise (s : State) : State := (s.raise .noWire).enterLowering

/-- RAISE_TIMER_EXPIRY (R126). -/
def execRaiseTimerExpiry (t : Nat) (s : State) : Result :=
  let s := s.takenAt t
  .next (if s.panto.state == .raising && s.due s.panto.raiseTimer then s.endRaise else s)

/-- The history with one more loss: of more than three the oldest goes (R128). -/
def addLoss (history : List Reading) (now : Reading) : List Reading :=
  let h := history ++ [now]
  if 3 < h.length then h.drop 1 else h

/-- A repeated loss: three in the history, the oldest less than 10,000 ms before the last (R128). -/
def repeatedLoss (history : List Reading) (now : Reading) : Bool :=
  match history with
  | [a, _, _] => decide ((now - a).toNat < 10000)
  | _ => false

/-- A contact loss in CONTACT (R128): UNLOADING for a repeated loss, and otherwise RAISING. -/
def State.contactLoss (s : State) : State :=
  let history := addLoss s.panto.history s.now
  let s := s.raise .contactLost
  if repeatedLoss history s.now then
    let s := { s with panto := { s.panto with history := [] } }
    ((s.raise .repeatedLoss).enterUnloading none).contactLeft true
  else
    let s := { s with panto := { s.panto with history := history } }
    s.enterRaising.contactLeft false

/-- A force channel is OPEN (R133). -/
def State.forceOpen (s : State) : Bool := s.openChannel 2 || s.openChannel 3

/-- The loss timer expires in UNLOADING: a contact loss, which ends it (R130); with a force channel OPEN no contact loss is counted, and
the timer is only stopped (R133; notes/assumptions/33.md). -/
def State.lossInUnloading (s : State) : State :=
  if s.forceOpen then { s with panto := { s.panto with lossTimer := none } } else (s.raise .contactLost).enterLowering

/-- LOSS_TIMER_EXPIRY: a contact loss in CONTACT (R128) or in UNLOADING (R130). -/
def execLossTimerExpiry (t : Nat) (s : State) : Result :=
  let s := s.takenAt t
  .next (if s.due s.panto.lossTimer then
    match s.panto.state with
    | .contact => s.contactLoss
    | .unloading => s.lossInUnloading
    | .lowered => s
    | .raising => s
    | .lowering => s
    | .faulted => s
  else s)

/-- IMBALANCE_TIMER_EXPIRY: HEAD_IMBALANCE once per episode (R129). -/
def execImbalanceTimerExpiry (t : Nat) (s : State) : Result :=
  let s := s.takenAt t
  .next (if s.panto.state == .contact && s.due s.panto.imbalanceTimer then
    let fresh := !s.panto.imbalanceEpisode
    let s := { s with panto := { s.panto with imbalanceTimer := none, imbalanceEpisode := true } }
    s.raiseIf fresh .headImbalance
  else s)

/-- UNLOAD_TIMER_EXPIRY (R130). -/
def execUnloadTimerExpiry (t : Nat) (s : State) : Result :=
  let s := s.takenAt t
  .next (if s.panto.state == .unloading && s.due s.panto.unloadTimer then
    (s.raise .unloadTimeout).enterLowering
  else s)

/-- LOWER_TIMER_EXPIRY: ACTUATOR_FAULT and FAULTED (R131). -/
def execLowerTimerExpiry (t : Nat) (s : State) : Result :=
  let s := s.takenAt t
  .next (if s.panto.state == .lowering && s.due s.panto.lowerTimer then
    let s := s.raise .actuatorFault
    { s with panto := s.panto.enter .faulted }
  else s)

/-- EMLOWER_N_FALL: from RAISING, CONTACT or UNLOADING to LOWERING at once, from ready on and on a truck (R132, R135). -/
def execEmlowerNFall (t : Nat) (s : State) : Result :=
  let s := s.takenAt t
  .next (if s.isReady && s.isTruck then
    match s.panto.state with
    | .raising => (s.raise .emergencyLower).enterLowering
    | .contact => ((s.raise .emergencyLower).enterLowering).contactLeft true
    | .unloading => (s.raise .emergencyLower).enterLowering
    | .lowering => s
    | .lowered => s
    | .faulted => s
  else s)

/-- The sensor-fault flag becomes set (R133). -/
def State.sensorFaultSet (s : State) : State :=
  match s.panto.state with
  | .contact => (s.enterUnloading none).contactLeft true
  | .raising => s.enterLowering
  | .unloading => s
  | .lowering => s
  | .lowered => s
  | .faulted => s

/-! ### A published set (R122) -/

/-- The total force and the head difference count with channels 2 and 3 both valid (R122). -/
def State.forceCounted (s : State) : Bool := s.validChannel 2 && s.validChannel 3

/-- The total force in newtons (R122). -/
def State.totalForce (s : State) : Nat := s.headForce 2 + s.headForce 3

/-- The head difference in newtons (R122). -/
def State.headDifference (s : State) : Nat := max (s.headForce 2) (s.headForce 3) - min (s.headForce 2) (s.headForce 3)

/-- A counted head difference at or below the limit ends the imbalance episode, in any state (R129). -/
def State.setInEpisodeOfHeads (s : State) : State :=
  if s.forceCounted && decide (s.headDifference ≤ s.config.imbalanceLimit) then
    { s with panto := { s.panto with imbalanceEpisode := false } }
  else s

/-- A qualification timer on a counted reading: started or left running where the condition is met, stopped where it is
not (R122). -/
def State.qualify (s : State) (timer : Option Nat) (met : Bool) (ms : Nat) : Option Nat :=
  if met then s.startIfStopped timer ms else none

/-- Regulation of the hold duty (R127). -/
def State.regulate (s : State) : State :=
  if s.forceCounted then
    let band := holdBand s.config.holdMin s.config.holdMax
    let duty :=
      if s.totalForce < s.config.windowLow then band (s.panto.holdDuty + s.config.holdStep)
      else if s.config.windowHigh < s.totalForce then band (s.panto.holdDuty - s.config.holdStep)
      else s.panto.holdDuty
    { s with panto := { s.panto with holdDuty := duty } }
  else s

/-- The loss timer in CONTACT and UNLOADING (R122, R128, R130). -/
def State.watchLoss (s : State) : State :=
  if s.forceCounted then
    let timer := s.qualify s.panto.lossTimer (decide (s.totalForce < s.config.lossThreshold)) (10 * s.config.lossTime)
    { s with panto := { s.panto with lossTimer := timer } }
  else s

/-- The imbalance timer in CONTACT: not started while the episode flag is set (R129). -/
def State.watchImbalance (s : State) : State :=
  if s.forceCounted then
    let above := decide (s.config.imbalanceLimit < s.headDifference)
    let timer :=
      if above && s.panto.imbalanceEpisode then s.panto.imbalanceTimer
      else s.qualify s.panto.imbalanceTimer above 1000
    { s with panto := { s.panto with imbalanceTimer := timer } }
  else s

/-- The contact qualification timer in RAISING (R125). -/
def State.watchContact (s : State) : State :=
  if s.forceCounted then
    let timer := s.qualify s.panto.qualTimer (decide (s.config.contactThreshold ≤ s.totalForce)) 100
    { s with panto := { s.panto with qualTimer := timer } }
  else s

/-- A set in RAISING: contact qualifies (R125), and the top stop ends the raise (R126). -/
def State.setInRaising (s : State) : State :=
  let s := s.watchContact
  if s.validChannel 4 && decide (s.config.topStop ≤ s.code 4) then s.endRaise else s

/-- A set in UNLOADING: regulation and the loss timer go on, and a current at or below the release current ends it (R130). -/
def State.setInUnloading (s : State) : State :=
  let s := s.regulate.watchLoss
  if s.validChannel 0 && decide (s.code 0 ≤ s.config.releaseCurrent) then s.enterLowering else s

/-- A set in LOWERING: a position at or below the lowered threshold makes it LOWERED (R131). -/
def State.setInLowering (s : State) : State :=
  if s.validChannel 4 && decide (s.code 4 ≤ s.config.loweredThreshold) then s.enterLowered else s

/-- The Pantograph Controller of a truck takes a published set (R122). -/
def State.setInPantograph (s : State) : State :=
  let s := s.setInEpisodeOfHeads
  match s.panto.state with
  | .lowered => s
  | .raising => s.setInRaising
  | .contact => s.regulate.watchLoss.watchImbalance
  | .unloading => s.setInUnloading
  | .lowering => s.setInLowering
  | .faulted => s

/-! ### The actuator outputs (R121) -/

/-- ACTUATOR_PERIOD_BOUNDARY: the duty and the direction held now are taken; a feeder's outputs stay low (R121, R135). -/
def execActuatorPeriodBoundary (t : Nat) (s : State) : Result :=
  let s := s.takenAt t
  .next (if s.running && decide (s.panto.nextBoundary ≤ s.clock) then
    let duty := if s.isTruck then s.driveDuty else 0
    { s with panto := { s.panto with
        dutyInForce := duty
        actDirOut := s.isTruck && s.panto.state.up
        actPwmOut := decide (0 < duty)
        nextBoundary := (s.clock / actuatorPeriod + 1) * actuatorPeriod } }
  else s)

/-- ACTUATOR_PULSE_END: the counter, 256 steps to 50 µs, has reached the duty in force and ACT_PWM goes low (R121). -/
def execActuatorPulseEnd (t : Nat) (s : State) : Result :=
  let s := s.takenAt t
  let elapsed := s.clock + actuatorPeriod - s.panto.nextBoundary
  .next (if s.panto.actPwmOut && decide (s.panto.dutyInForce * actuatorPeriod ≤ 256 * elapsed) then
    { s with panto := { s.panto with actPwmOut := false } }
  else s)

/-- The Pantograph Controller at a warm reset (R137). The loss, imbalance, raise and qualification timers of the state left are
stopped; a running unload or lower timer is kept. -/
def State.warmResetPantograph (s : State) : State :=
  let s := match s.panto.state with
    | .contact => s.enterUnloading none
    | .raising => s.enterLowering
    | .unloading => { s with panto := { s.panto with lossTimer := none } }
    | .lowering => s
    | .lowered => s
    | .faulted => s
  { s with panto := { s.panto with history := [], imbalanceEpisode := false } }

end Sys2Proof.Machine
end

