-- ==== Sys2Proof/Machine/Sweeper.lean ====
section
/-! DEFINITION. The Measurement Sweeper (Chapter 9): publication, open-wire tests, the end of the self-check, READ
MEASUREMENTS. -/

namespace Sys2Proof.Machine

/-- The code a channel has after a publication: its own of the last set while it is OPEN, and the sweep's otherwise (R141). -/
def Sweeper.nextCode (w : Sweeper) (samples : Vector Code 18) (channel : Nat) : Code :=
  if w.openFlags.getLsbD channel then w.published.codes.toList.getD channel 0 else sweepCode samples channel

/-- The set replaced whole (R141): valid exactly where the OPEN flag is clear. -/
def Sweeper.publish (w : Sweeper) (samples : Vector Code 18) : Sweeper :=
  let code := w.nextCode samples
  { w with published :=
      { codes := #v[code 0, code 1, code 2, code 3, code 4, code 5, code 6, code 7]
        valid := ~~~w.openFlags } }

/-- The samples of a completed sweep: those taken for a measurement pair as they were taken, the others as they come (R147). -/
def Sweeper.sweepSamples (w : Sweeper) (samples : Vector Code 18) : Vector Code 18 :=
  Vector.ofFn fun k => w.pairSamples[k].getD samples[k]

/-- A sweep completes: the sweep counter, the test due at 64, the abort count back at 0, and what is converted next (R140, R142,
R145). -/
def Sweeper.finishSweep (w : Sweeper) (clock : Nat) : Sweeper :=
  let counter := (w.sweepCounter + 1) % 64
  let pending := w.testPending || counter == 0
  { w with
    sweepCounter := counter
    testPending := pending
    abortCount := 0
    pairSamples := noSamples
    conversion := if pending then .test clock else .sweep clock }

/-- The conversion being taken: its place, from 0, in the sweep or the test in progress, and in the self-check its test conversions
0 to 15 and then the first sweep's positions from 16 (R140, R142, R148). A pull-up is the even and a pull-down the odd conversion of
a test. -/
def State.sweepPosition (s : State) : Option Nat :=
  match s.sweeper.conversion with
  | .stopped => none
  | .selfCheck since => some ((s.clock - since) / conversionTime)
  | .sweep since => some ((s.clock - since) / conversionTime)
  | .test since => some ((s.clock - since) / conversionTime)

/-- The published set passed to the blocks that act on it (R141): on a truck the Share Engine and the Pantograph Controller, on a
feeder the Feeder Role logic. -/
def State.passSet (s : State) : State :=
  if s.isTruck then s.setInShareEngine.setInPantograph else s.setInFeeder

/-- SWEEP_COMPLETE (R140 to R142, R147). -/
def execSweepComplete (t : Nat) (samples : Vector Code 18) (s : State) : Result :=
  let s := s.takenAt t
  .next (match s.sweeper.conversion with
    | .sweep since =>
      if s.isReady && decide (since + sweepTime ≤ s.clock) then
        State.passSet { s with sweeper := (s.sweeper.publish (s.sweeper.sweepSamples samples)).finishSweep s.clock }
      else s
    | .stopped => s
    | .selfCheck _ => s
    | .test _ => s)

/-- An OPEN flag set or cleared. -/
def setFlag (flags : BitVec 8) (channel : Nat) (value : Bool) : BitVec 8 :=
  if value then flags ||| (1#8 <<< channel) else flags &&& ~~~(1#8 <<< channel)

/-- The test's result applied: the channel's OPEN flag, the pending flag, the rotation and the next sweep (R142, R143). Its
18 conversions publish 360 µs later, as R140 and section 9.11 have it, against the 320 µs of R152 (notes/assumptions/30.md). -/
def Sweeper.finishTest (w : Sweeper) (result : Bool) (clock : Nat) : Sweeper :=
  { w.startSweep clock with
    openFlags := setFlag w.openFlags w.rotation.val result
    testPending := false
    rotation := w.rotation + 1 }

/-- A channel whose OPEN flag has become set on a truck: DEGRADED's onset for channels 0 and 1, the sensor fault for 2 to 4, each
only where none stood before (R56, R133, R144). -/
def State.openedOnTruck (s : State) (degradedBefore faultBefore : Bool) : State :=
  let s := s.raise .sensorOpen
  let s := if s.degradedStands && !degradedBefore then s.floorOnset else s
  if s.sensorFault && !faultBefore then s.sensorFaultSet else s

/-- A channel whose OPEN flag has become set on a feeder: for channels 0 and 1 SENSOR_OPEN, and overload detection goes off
(R144, R169); for the others nothing. -/
def State.openedOnFeeder (s : State) (channel : Nat) : State :=
  if channel ≤ 1 then (s.raise .sensorOpen).calmFeeder else s

/-- OPEN_WIRE_TEST_COMPLETE (R142 to R144). -/
def execOpenWireTestComplete (t : Nat) (test : WireTest) (s : State) : Result :=
  let s := s.takenAt t
  .next (match s.sweeper.conversion with
    | .test since =>
      if since + testTime ≤ s.clock then
        let channel := s.sweeper.rotation.val
        let opened := findsOpen test && !s.openChannel channel
        let degradedBefore := s.degradedStands
        let faultBefore := s.sensorFault
        let s := { s with sweeper := s.sweeper.finishTest (findsOpen test) s.clock }
        if opened then
          if s.isTruck then s.openedOnTruck degradedBefore faultBefore else s.openedOnFeeder channel
        else s
      else s
    | .stopped => s
    | .selfCheck _ => s
    | .sweep _ => s)

/-- The OPEN flags the self-check's tests find, channel n in bit n (R148). -/
def openFound (tests : Vector WireTest 8) : BitVec 8 :=
  (List.range 8).foldl (fun flags n => setFlag flags n ((tests.toList[n]?.map findsOpen).getD false)) 0

/-- The pantograph was found up: channel 4 good and above the lowered threshold, on a truck (R149). -/
def State.foundUp (s : State) : Bool :=
  s.isTruck && !s.openChannel 4 && decide (s.config.loweredThreshold < s.code 4)

/-- The self-check word (R149). -/
def State.selfCheckResult (s : State) : BitVec 16 := BitVec.ofNat 16 (s.sweeper.openFlags.toNat + 256 * bitOf s.foundUp)

/-- SELFCHECK_FAIL applies: any of channels 0 to 4 OPEN on a truck, 0 or 1 on a feeder (R149). -/
def State.selfCheckFailed (s : State) : Bool :=
  s.openChannel 0 || s.openChannel 1 || (s.isTruck && (s.openChannel 2 || s.openChannel 3 || s.openChannel 4))

/-- A truck's pantograph takes its first state (R136); a feeder's stays LOWERED (R135). -/
def State.firstPantograph (s : State) : State :=
  let s := { s with panto := { s.panto with holdDuty := s.config.holdStart } }
  if s.openChannel 4 then { s with panto := s.panto.enter .faulted }
  else if s.foundUp then s.enterLowering
  else s

/-- The blocks' first decisions from the first set (R136, R141, R148; notes/assumptions/26.md): on a truck the pantograph's first
state, on a feeder the overload state. -/
def State.firstDecisions (s : State) : State := if s.isTruck then s.firstPantograph else s.setInFeeder

/-- The Sweeper at the end of the self-check: the tests' flags, the first set, and the sweeps begun (R148). -/
def Sweeper.afterSelfCheck (w : Sweeper) (tests : Vector WireTest 8) (samples : Vector Code 18) (clock : Nat) : Sweeper :=
  ({ w with openFlags := openFound tests }.publish samples).startSweep clock

/-- SELFCHECK_END: 680 µs after the end of the load the first set is published, the self-check word written, SELFCHECK_FAIL raised
where it applies, and the part is ready: cycle timer started, first decisions taken (R44, R136, R141, R148, R149, R181). -/
def execSelfcheckEnd (t : Nat) (tests : Vector WireTest 8) (samples : Vector Code 18) (s : State) : Result :=
  let s := s.takenAt t
  .next (if s.startup == .selfCheck && decide (selfCheckTime ≤ s.clock) then
    let s := { s with sweeper := s.sweeper.afterSelfCheck tests samples s.clock }
    let s := { s with
      startup := .ready
      sweeper := { s.sweeper with selfCheckWord := s.selfCheckResult }
      share := { s.share with cycleTimer := s.afterMs (10 * s.config.period) } }
    (s.raiseIf s.selfCheckFailed .selfcheckFail).firstDecisions
  else s)

/-- READ MEASUREMENTS: codes, valid flags, OPEN flags (R151, R174). -/
def execReadMeasurements (t : Nat) (s : State) : Result :=
  .next (onPort t s fun s =>
    s.answer .ok (((List.range 8).map fun n => bytes2 (s.code n)).flatten ++ [s.sweeper.published.valid, s.sweeper.openFlags]))

/-- The Sweeper at a warm reset (R150): what is converted is abandoned and a new sweep starts; a test abandoned stays pending. -/
def Sweeper.warmReset (w : Sweeper) (clock : Nat) : Sweeper :=
  { w.startSweep clock with abortCount := 0, pairRequest := none, heldSample := none }

end Sys2Proof.Machine
end

