-- ==== Sys2Proof/Machine/Startup.lean ====
section
/-! DEFINITION. Power-on reset, the configuration load, warm reset (R179 to R183). -/

namespace Sys2Proof.Machine

/-- The load's outcome (R179): the first ground for rejection in the manual's order, or acceptance. A rejected block leaves the part a
truck, the role in the Default column of R180 (notes/assumptions/29.md). -/
def loadOutcome (block : Option (Vector Byte 64)) : LoadResult × Configuration :=
  match block with
  | none => (.notRead, defaultConfiguration)
  | some v =>
    let b := v.toList
    if blockByte b 0 != 1 then (.badVersion, defaultConfiguration)
    else if (crc16 (b.take 62)).toNat != blockWord b 62 then (.badCrc, defaultConfiguration)
    else (if blockAdjusted b then .acceptedClamped else .accepted, acceptedConfiguration b)

/-- Whether a load result is a rejection (R179). -/
def loadRejected (r : LoadResult) : Bool :=
  match r with
  | .accepted => false
  | .acceptedClamped => false
  | .notRead => true
  | .badVersion => true
  | .badCrc => true

/-- The code of a load result (R179). -/
def loadCode (r : LoadResult) : Byte :=
  match r with
  | .accepted => 0
  | .acceptedClamped => 1
  | .notRead => 2
  | .badVersion => 3
  | .badCrc => 4

/-- CONFIGURATION_LOAD_END: the configuration taken, the timebases, counters and assembler started at 0, the random generator
seeded, CONFIG_DEFAULT on a rejection; the self-check begins (R112, R148, R179, R181). -/
def execConfigurationLoadEnd (block : Option (Vector Byte 64)) (s : State) : Result :=
  .next (if s.startup == .loading then
    let outcome := loadOutcome block
    let s := { s with
      startup := .selfCheck
      clock := 0
      config := outcome.2
      loadResult := outcome.1
      link := { s.link with lfsr := outcome.2.address, listenFrom := 0 }
      sweeper := { s.sweeper with conversion := .selfCheck 0 } }
    s.raiseIf (loadRejected outcome.1) .configDefault
  else s)

/-- Every piece of state at its power-on value, the queue apart (R181). -/
def State.powerOn (s : State) (stage : Startup) : State := { State.reset with startup := stage, pending := s.pending }

/-- POWER_ON_RESET: RESET_N low holds the part in power-on reset, every output at its reset level (R181; notes/assumptions/7.md). -/
def execPowerOnReset (s : State) : Result := .next (s.powerOn .held)

/-- RESET_N_RELEASE: every piece of state takes its power-on value and the configuration load begins (R181). -/
def execResetNRelease (s : State) : Result := .next (if s.startup == .held then s.powerOn .loading else s)

/-- The Share Engine at a warm reset (R2, R3, R22, R34, R53, R87, R89, R182): every value at rest and the cycle timer started again. -/
def State.warmResetShare (s : State) : State :=
  { s with share := { ShareEngine.powerOn with cycleTimer := s.afterMs (10 * s.config.period) } }

/-- The Carrier Link at a warm reset (R118): the queue emptied and a wait abandoned; a frame on the line, the assembler, the random
generator and the transmit-enable flag are kept. -/
def CarrierLink.warmReset (l : CarrierLink) : CarrierLink :=
  { l with
    periodic := none
    shed := none
    depart := none
    departFirst := false
    transmitter := match l.transmitter with
      | .idle => .idle
      | .waiting _ _ => .idle
      | .sending f since => .sending f since }

/-- A warm reset: one event in every block (R182). The response buffer is kept: R175 gives no value for it, and where WARM_N falls in
a transaction the bytes still clocked out are those of the response (notes/assumptions/31.md). -/
def State.warmReset (s : State) : State :=
  let s := s.warmResetLimit.warmResetShare.warmResetPantograph
  { s with
    peers := []
    holds := []
    link := s.link.warmReset
    sweeper := s.sweeper.warmReset s.clock
    arc := { ArcMonitor.powerOn with resetAt := some s.clock }
    feeder := .powerOn
    port := { s.port with flags := 0, fresh := 0 } }

/-- WARM RESET: answered OK; the reset waits for the rise of CS_N (R182, R183). -/
def execWarmReset (t : Nat) (s : State) : Result :=
  .next (onPort t s fun s =>
    let s := s.answerOk
    { s with port := { s.port with warmResetRequested := true } })

/-- WARM_RESET_TAKEN: CS_N rises after a WARM RESET command was taken, and what is left of its response is discarded (R171, R182). -/
def execWarmResetTaken (t : Nat) (s : State) : Result :=
  let s := s.takenAt t
  .next (if s.isReady && s.port.warmResetRequested then
    State.warmReset { s.discardResponse with port := { s.discardResponse.port with warmResetRequested := false } }
  else s)

/-- WARM_N_FALL: a warm reset, from ready on (R181, R182). -/
def execWarmNFall (t : Nat) (s : State) : Result :=
  let s := s.takenAt t
  .next (if s.isReady then s.warmReset else s)

end Sys2Proof.Machine
end

