-- ==== Sys2Proof/Machine/Port.lean ====
section
/-! DEFINITION. The truck port's remaining commands (R171 to R173, R180, R181). -/

namespace Sys2Proof.Machine

/-- The phase code (R62). -/
def Phase.code (p : Phase) : Nat :=
  match p with
  | .offline => 0
  | .listen => 1
  | .active => 2
  | .crossing => 3

/-- The sub-state code (R89). -/
def CrossSub.code (c : CrossSub) : Nat :=
  match c with
  | .none => 0
  | .drain => 1
  | .gap => 2
  | .dead => 3

/-- The pantograph state code (R120). -/
def PantoState.code (p : PantoState) : Nat :=
  match p with
  | .lowered => 0
  | .raising => 1
  | .contact => 2
  | .unloading => 3
  | .lowering => 4
  | .faulted => 5

/-- READ STATUS: the 11 bytes of R172. -/
def execReadStatus (t : Nat) (s : State) : Result :=
  .next (onPort t s fun s =>
    s.answer .ok ([byte1 s.panto.state.code, byte1 s.share.phase.code, byte1 s.mode.code, byte1 s.share.crossSub.code]
      ++ bytes2 s.lim.limit ++ bytes2 s.lim.lastTarget
      ++ [byte1 (bitOf s.arc.storm), byte1 s.holds.length, byte1 (bitOf s.alerting)]))

/-- WRITE DEMAND: a class above 3 is refused; otherwise the demand, clamped to 4095, and the class are stored (R173). -/
def execWriteDemand (t : Nat) (demand : Half) (cls : Byte) (s : State) : Result :=
  .next (onPort t s fun s =>
    if h : cls.toNat < 4 then
      let s := s.answerOk
      { s with share := { s.share with requestedDemand := min maxTruckCurrent demand.toNat, demandClass := ⟨cls.toNat, h⟩ } }
    else s.answer .badParameter [])

/-- READ CONFIG: the 62 bytes of the configuration in use (R180). -/
def execReadConfig (t : Nat) (s : State) : Result :=
  .next (onPort t s fun s => s.answer .ok (configBytes s.config))

/-- READ IDENTITY: part code 0x7A48, revision 0x01, load result, self-check word (R181). -/
def execReadIdentity (t : Nat) (s : State) : Result :=
  .next (onPort t s fun s =>
    s.answer .ok ([0x7A, 0x48, 0x01, loadCode s.loadResult] ++ halfBytes s.sweeper.selfCheckWord))

/-- UNKNOWN_COMMAND: a code outside the command set is answered so and changes nothing (R171). A code of the set makes no such
command, and nothing comes about (notes/assumptions/8.md). -/
def execUnknownCommand (t : Nat) (code : Byte) (s : State) : Result :=
  if (paramCount code).isNone then .next (onPort t s fun s => s.answer .unknownCommand [])
  else .next (s.takenAt t)

/-- TRANSACTION_ABANDONED: CS_N rises with the command not taken; nothing changes, and no response is left to be clocked out (R171;
notes/assumptions/21.md). -/
def execTransactionAbandoned (t : Nat) (_bytes : List Byte) (s : State) : Result := .next (s.takenAt t).discardResponse

end Sys2Proof.Machine
end

