-- ==== Sys2Proof/Machine/Reception.lean ====
section
/-! DEFINITION. Reception (R105 to R109): the characters on MRXD, the frames they make up, and what the Peer Table and the Hold List
take from them. A command of the line brings the characters received since the one before (notes/assumptions/14.md). -/

namespace Sys2Proof.Machine

/-- An accepted frame, its fields clamped, handed on (R108, R109): a DEMAND and a SUPPLY to the Peer Table as an entry heard now (R28
to R32), a DEPART to it as a removal (R38), a SHED to the Hold List (R78 to R80). -/
def State.handOn (s : State) (f : Frame) : State :=
  match f.payload with
  | .demand p => s.takePeer {
      address := f.source, period := takenPeriod p.period, lastHeard := s.now, part := .truck (takenDemand p), becameStale := false }
  | .supply p => s.takePeer {
      address := f.source, period := takenPeriod p.period, lastHeard := s.now, part := .feeder (takenSupply p), becameStale := false }
  | .shed p => s.takeShed f.source (takenHold p) p.reason
  | .depart => { s with peers := removePeer f.source s.peers }

/-- A whole frame: dropped silently by R106, dropped with ADDRESS_CLASH by R107, or accepted. -/
def State.takeFrame (s : State) (f : Frame) (crc : Half) : State :=
  if frameValid f crc then
    if f.source = s.config.address then s.raise .addressClash else s.handOn f
  else s

/-- A gap over 2 ms before `start` has ended a frame in assembly, or the hunting (R105). -/
def CarrierLink.afterGap (l : CarrierLink) (start : Nat) : Assembler :=
  if l.listenFrom + maxGap < start then .waiting else l.assembler

/-- Whether a character is taken, its stop bit having ended: not while MTXEN is asserted, not one that ended while it was, and not one
begun before the last one taken had ended (R105). -/
def State.takes (s : State) (c : Character) : Bool :=
  s.receiving && decide (s.link.listenFrom ≤ c.start) && decide (c.start + characterTime ≤ s.clock)

/-- One character on MRXD (R105): a gap before it is timed, the assembler takes it, and a frame it completes is tested. -/
def State.takeCharacter (s : State) (c : Character) : State :=
  if s.takes c then
    let taken := (s.link.afterGap c.start).take c
    let s := { s with link := { s.link with assembler := taken.1, listenFrom := c.start + characterTime } }
    match taken.2.bind frameOf with
    | some whole => s.takeFrame whole.1 whole.2
    | none => s
  else s

/-- A run of characters, one after the other (R105). -/
def State.hear (s : State) (characters : List Character) : State := characters.foldl State.takeCharacter s

/-- DEMAND_RECEIVED: the characters of a DEMAND; where they complete it and it is accepted, the Peer Table takes it as a truck entry
heard now (R28 to R32, R105 to R109). -/
def execDemandReceived (t : Nat) (source : Address) (payload : DemandPayload) (line : Reception 20) (s : State) : Result :=
  .next ((s.takenAt t).hear (Frame.characters { source := source, payload := .demand payload } line.crc line.starts.toList))

/-- SUPPLY_RECEIVED: the characters of a SUPPLY; where they complete it and it is accepted, the Peer Table takes it as a feeder entry
heard now (R28 to R32, R105 to R109). -/
def execSupplyReceived (t : Nat) (source : Address) (payload : SupplyPayload) (line : Reception 17) (s : State) : Result :=
  .next ((s.takenAt t).hear (Frame.characters { source := source, payload := .supply payload } line.crc line.starts.toList))

/-- SHED_RECEIVED: the characters of a SHED; where they complete it and it is accepted, the Hold List takes it (R78 to R80, R105 to
R109). -/
def execShedReceived (t : Nat) (source : Address) (payload : ShedPayload) (line : Reception 10) (s : State) : Result :=
  .next ((s.takenAt t).hear (Frame.characters { source := source, payload := .shed payload } line.crc line.starts.toList))

/-- DEPART_RECEIVED: the characters of a DEPART; where they complete it and it is accepted, the sender's entry is removed, if present
(R38, R105 to R109). -/
def execDepartReceived (t : Nat) (source : Address) (line : Reception 7) (s : State) : Result :=
  .next ((s.takenAt t).hear (Frame.characters { source := source, payload := .depart } line.crc line.starts.toList))

/-- Whether a gap over 2 ms stands at this moment with the assembler not WAITING (R105). No gap is timed during a transmission. -/
def State.gapStands (s : State) : Bool :=
  s.receiving && s.link.assembler != .waiting && decide (s.link.listenFrom + maxGap < s.clock)

/-- RECEIVE_GAP_TIMEOUT: the characters before the gap; a gap over 2 ms then drops a frame in assembly, or ends HUNTING (R105). -/
def execReceiveGapTimeout (heard : Heard) (s : State) : Result :=
  let s := (s.takenAt heard.t).hear heard.characters
  .next (if s.gapStands then { s with link := { s.link with assembler := .waiting } } else s)

/-- FRAMING_ERROR: the characters up to the one with the low stop bit, at which a frame in assembly is dropped and the assembler
hunts (R105). -/
def execFramingError (heard : Heard) (s : State) : Result := .next ((s.takenAt heard.t).hear heard.characters)

/-- HEADER_TEST_FAILED: the characters up to the byte that fails its test, at which the frame is dropped and the assembler hunts; an
assembler already hunting discards them (R105, R106). -/
def execHeaderTestFailed (t : Nat) (characters : List Character) (s : State) : Result := .next ((s.takenAt t).hear characters)

end Sys2Proof.Machine
end

