-- ==== Sys2Proof/Machine/Clock.lean ====
section
/-! DEFINITION. Time passing with no command waiting (notes/assumptions/3.md): one µs, and the part's own timed events that fall due
placed in the queue. Events that carry a reading from outside (samples, a pin's level, characters on the line, or a
gap between them) are not the part's own to make. -/

namespace Sys2Proof.Machine

/-- One command, where its event is due. -/
def dueCommand (b : Bool) (i : Instr) : List Instr := if b then [i] else []

/-- The Share Engine's and the tables' timers that have run out. -/
def State.dueInTables (s : State) : List Instr :=
  dueCommand (s.due s.share.cycleTimer) (.cycleTick s.clock)
  ++ dueCommand (s.due s.share.listenTimer) (.listenTimerExpiry s.clock)
  ++ dueCommand (s.due s.share.overflowTimer) (.overflowTimerExpiry s.clock)
  ++ dueCommand (s.due s.share.crossTimer) (.crossingTimerExpiry s.clock)
  ++ dueCommand (s.due s.share.collapseTimer) (.collapseTimerExpiry s.clock)
  ++ (s.holds.filter fun h => h.remaining s.now == 0).map (fun _ => .holdExpiry s.clock)
  ++ (s.peers.filter fun p => p.ages s.now && !p.becameStale).map (fun p => .entryBecomesStale s.clock p.address)
  ++ (s.peers.filter fun p => p.expired s.now).map (fun p => .entryRemovedByAge s.clock p.address)

/-- Whether a transmission has its last stop bit out (R114). -/
def State.transmissionOver (s : State) : Bool :=
  match s.link.transmitter with
  | .idle => false
  | .waiting _ _ => false
  | .sending f since => decide (lineEnd f since ≤ s.clock)

/-- Whether a pending record without a duration has reached the age of saturation (R156). -/
def State.arcSaturates (s : State) : Bool :=
  s.arc.pending.any fun r => r.duration.isNone && decide (arcSaturationAge ≤ r.age s.arcNow)

/-- The pantograph's and the feeder's timers that have run out. -/
def State.dueInControllers (s : State) : List Instr :=
  dueCommand s.transmissionOver (.transmissionEnd s.clock)
  ++ dueCommand s.arcSaturates (.arcSaturation s.clock)
  ++ dueCommand (s.due s.panto.qualTimer) (.contactQualificationExpiry s.clock)
  ++ dueCommand (s.due s.panto.raiseTimer) (.raiseTimerExpiry s.clock)
  ++ dueCommand (s.due s.panto.lossTimer) (.lossTimerExpiry s.clock)
  ++ dueCommand (s.due s.panto.imbalanceTimer) (.imbalanceTimerExpiry s.clock)
  ++ dueCommand (s.due s.panto.unloadTimer) (.unloadTimerExpiry s.clock)
  ++ dueCommand (s.due s.panto.lowerTimer) (.lowerTimerExpiry s.clock)
  ++ dueCommand (s.due s.feeder.overTimer) (.overTimerExpiry s.clock)
  ++ dueCommand (s.due s.feeder.repeatTimer) (.repeatTimerExpiry s.clock)
  ++ dueCommand (s.due s.feeder.releaseTimer) (.releaseTimerExpiry s.clock)

/-- The pulse ends and the period boundaries that have come, a period's pulse end before its boundary. -/
def State.dueInOutputs (s : State) : List Instr :=
  dueCommand (s.lim.limitOut && decide (s.lim.nextBoundary + s.lim.periodValue ≤ s.clock + limitPeriod)) (.limitPulseEnd s.clock)
  ++ dueCommand (s.lim.lstbOut && decide (s.lim.lstbUntil ≤ s.clock)) (.lstbPulseEnd s.clock)
  ++ dueCommand (s.panto.actPwmOut
      && decide (s.panto.dutyInForce * actuatorPeriod ≤ 256 * (s.clock + actuatorPeriod - s.panto.nextBoundary)))
      (.actuatorPulseEnd s.clock)
  ++ dueCommand (decide (s.lim.nextBoundary ≤ s.clock)) (.periodBoundary s.clock)
  ++ dueCommand (decide (s.panto.nextBoundary ≤ s.clock)) (.actuatorPeriodBoundary s.clock)

/-- The part's own timed events due at this moment. -/
def State.ownEvents (s : State) : List Instr := s.dueInTables ++ s.dueInControllers ++ s.dueInOutputs

/-- One µs passes (R181); before the end of the load no timebase runs and nothing comes about. -/
def State.idle (s : State) : State :=
  if s.running then
    let s := { s with clock := s.clock + 1 }
    { s with pending := s.ownEvents }
  else s

end Sys2Proof.Machine
end

