-- ==== Sys2Proof/Machine/Dispatch.lean ====
section
/-! DEFINITION. One arm per command: the command's meaning. -/

namespace Sys2Proof.Machine

def exec (i : Instr) (s : State) : Host.Outcome State Fault Refusal :=
  match i with
  | .readStatus t => Sys2Proof.Machine.execReadStatus t s
  | .readEvents t => Sys2Proof.Machine.execReadEvents t s
  | .clearEvents t mask => Sys2Proof.Machine.execClearEvents t mask s
  | .writeEventMask t mask => Sys2Proof.Machine.execWriteEventMask t mask s
  | .writeDemand t demand cls => Sys2Proof.Machine.execWriteDemand t demand cls s
  | .writeCap t cap => Sys2Proof.Machine.execWriteCap t cap s
  | .sectionAhead t => Sys2Proof.Machine.execSectionAhead t s
  | .transmitOn t => Sys2Proof.Machine.execTransmitOn t s
  | .transmitOff t => Sys2Proof.Machine.execTransmitOff t s
  | .raise t emlower => Sys2Proof.Machine.execRaise t emlower s
  | .lower t => Sys2Proof.Machine.execLower t s
  | .clearFault t => Sys2Proof.Machine.execClearFault t s
  | .readPeer t index => Sys2Proof.Machine.execReadPeer t index s
  | .readBudget t => Sys2Proof.Machine.execReadBudget t s
  | .readHolds t => Sys2Proof.Machine.execReadHolds t s
  | .readArc t index => Sys2Proof.Machine.execReadArc t index s
  | .readMeasurements t => Sys2Proof.Machine.execReadMeasurements t s
  | .readConfig t => Sys2Proof.Machine.execReadConfig t s
  | .readIdentity t => Sys2Proof.Machine.execReadIdentity t s
  | .warmReset t => Sys2Proof.Machine.execWarmReset t s
  | .unknownCommand t code => Sys2Proof.Machine.execUnknownCommand t code s
  | .transactionAbandoned t bytes => Sys2Proof.Machine.execTransactionAbandoned t bytes s
  | .warmResetTaken t => Sys2Proof.Machine.execWarmResetTaken t s
  | .warmNFall t => Sys2Proof.Machine.execWarmNFall t s
  | .powerOnReset => Sys2Proof.Machine.execPowerOnReset s
  | .resetNRelease => Sys2Proof.Machine.execResetNRelease s
  | .configurationLoadEnd block => Sys2Proof.Machine.execConfigurationLoadEnd block s
  | .selfcheckEnd t tests samples => Sys2Proof.Machine.execSelfcheckEnd t tests samples s
  | .cycleTick t => Sys2Proof.Machine.execCycleTick t s
  | .listenTimerExpiry t => Sys2Proof.Machine.execListenTimerExpiry t s
  | .overflowTimerExpiry t => Sys2Proof.Machine.execOverflowTimerExpiry t s
  | .crossingTimerExpiry t => Sys2Proof.Machine.execCrossingTimerExpiry t s
  | .collapseTimerExpiry t => Sys2Proof.Machine.execCollapseTimerExpiry t s
  | .holdExpiry t => Sys2Proof.Machine.execHoldExpiry t s
  | .entryBecomesStale t address => Sys2Proof.Machine.execEntryBecomesStale t address s
  | .entryRemovedByAge t address => Sys2Proof.Machine.execEntryRemovedByAge t address s
  | .demandReceived t source payload line => Sys2Proof.Machine.execDemandReceived t source payload line s
  | .supplyReceived t source payload line => Sys2Proof.Machine.execSupplyReceived t source payload line s
  | .shedReceived t source payload line => Sys2Proof.Machine.execShedReceived t source payload line s
  | .departReceived t source line => Sys2Proof.Machine.execDepartReceived t source line s
  | .receiveGapTimeout heard => Sys2Proof.Machine.execReceiveGapTimeout heard s
  | .frameDue t carrier => Sys2Proof.Machine.execFrameDue t carrier s
  | .transmissionEnd t => Sys2Proof.Machine.execTransmissionEnd t s
  | .sweepComplete t samples => Sys2Proof.Machine.execSweepComplete t samples s
  | .openWireTestComplete t test => Sys2Proof.Machine.execOpenWireTestComplete t test s
  | .measurementPairHanded t sample => Sys2Proof.Machine.execMeasurementPairHanded t sample s
  | .arcStart t => Sys2Proof.Machine.execArcStart t s
  | .arcEnd t => Sys2Proof.Machine.execArcEnd t s
  | .arcSaturation t => Sys2Proof.Machine.execArcSaturation t s
  | .sectAheadFall t => Sys2Proof.Machine.execSectAheadFall t s
  | .emlowerNFall t => Sys2Proof.Machine.execEmlowerNFall t s
  | .contactQualificationExpiry t => Sys2Proof.Machine.execContactQualificationExpiry t s
  | .raiseTimerExpiry t => Sys2Proof.Machine.execRaiseTimerExpiry t s
  | .lossTimerExpiry t => Sys2Proof.Machine.execLossTimerExpiry t s
  | .imbalanceTimerExpiry t => Sys2Proof.Machine.execImbalanceTimerExpiry t s
  | .unloadTimerExpiry t => Sys2Proof.Machine.execUnloadTimerExpiry t s
  | .lowerTimerExpiry t => Sys2Proof.Machine.execLowerTimerExpiry t s
  | .overTimerExpiry t => Sys2Proof.Machine.execOverTimerExpiry t s
  | .repeatTimerExpiry t => Sys2Proof.Machine.execRepeatTimerExpiry t s
  | .releaseTimerExpiry t => Sys2Proof.Machine.execReleaseTimerExpiry t s
  | .periodBoundary t => Sys2Proof.Machine.execPeriodBoundary t s
  | .lstbPulseEnd t => Sys2Proof.Machine.execLstbPulseEnd t s
  | .actuatorPeriodBoundary t => Sys2Proof.Machine.execActuatorPeriodBoundary t s
  | .framingError heard => Sys2Proof.Machine.execFramingError heard s
  | .headerTestFailed t characters => Sys2Proof.Machine.execHeaderTestFailed t characters s
  | .channel0SampleHeld t sample => Sys2Proof.Machine.execChannel0SampleHeld t sample s
  | .limitPulseEnd t => Sys2Proof.Machine.execLimitPulseEnd t s
  | .actuatorPulseEnd t => Sys2Proof.Machine.execActuatorPulseEnd t s

end Sys2Proof.Machine
end

