-- ==== Sys2Proof/Safety.lean ====
section
/-! DEFINITION. What counts as a safe state: the form of the tables, queues, timers, flags and roles (R26, R74, R77, R78, R89,
R105, R110, R111, R120, R135, R154, R155, R158, R172, R175, R180), and the laws of the limit (R63). -/

namespace Sys2Proof.Machine

/-- The stored ranges of a peer entry (R25). -/
def Peer.inRange (p : Peer) : Prop :=
  5 ≤ p.period ∧ p.period ≤ 50 ∧
  match p.part with
  | .truck d =>
    (1 ≤ d.sharingMode ∧ d.sharingMode ≤ 3) ∧ (1 ≤ d.weight ∧ d.weight ≤ 15) ∧ d.effectiveDemand ≤ 4095 ∧ d.floor ≤ 1023
      ∧ d.allocation ≤ 4095 ∧ d.measured ≤ 4095
  | .feeder d => d.capacity ≤ 16383 ∧ d.feederCurrent ≤ 16383 ∧ d.unaccounted ≤ 16383

/-- A valid station address (00_scope.md, section 4.3). -/
def validAddress (a : Address) : Prop := a ≠ 0x0000 ∧ a ≠ 0xFFFF

/-- The peer table's form (R26): at most 12 entries, in ascending order of distinct valid addresses, none of them the own one. -/
def tableForm (own : Address) (peers : List Peer) : Prop :=
  peers.length ≤ 12 ∧ peers.Pairwise (fun p q => p.address.toNat < q.address.toNat) ∧
  ∀ p ∈ peers, validAddress p.address ∧ p.address ≠ own ∧ p.inRange

/-- The hold list's form (R77): at most 4 entries with distinct valid origins. -/
def holdForm (holds : List Hold) : Prop :=
  holds.length ≤ 4 ∧ holds.Pairwise (fun a b => a.origin ≠ b.origin) ∧ ∀ h ∈ holds, validAddress h.origin

/-- An arc record's ranges (R155). -/
def ArcRecord.inRange (r : ArcRecord) : Prop := 1 ≤ r.count ∧ r.count ≤ 255 ∧ ∀ d ∈ r.duration, d ≤ 65535

/-- The arc records' form (R155, R158). -/
def arcForm (a : ArcMonitor) : Prop :=
  a.pending.length ≤ 2 ∧ a.log.length ≤ 16 ∧ (∀ r ∈ a.pending, r.inRange) ∧ ∀ r ∈ a.log, r.inRange

/-- The transmitter works on a full slot, and rests only with every slot empty (R110, R111); no count stands at its limit (R113). -/
def linkForm (l : CarrierLink) : Prop :=
  (∀ q ∈ l.periodic, q.attempts < 12) ∧ (∀ q ∈ l.shed, q.attempts < 32) ∧ (∀ q ∈ l.depart, q.attempts < 32) ∧
  match l.transmitter with
  | .idle => l.periodic = none ∧ l.shed = none ∧ l.depart = none
  | .waiting .periodic _ => l.periodic ≠ none ∧ l.shed = none ∧ l.depart = none
  | .waiting .shed _ => l.shed ≠ none
  | .waiting .depart _ => l.depart ≠ none
  | .sending _ _ => True

/-- The receive assembler (R105, R106): a frame in assembly has a byte, has passed the header tests so far and is not complete; and the
last character taken lies in the past. -/
def assemblerForm (l : CarrierLink) (clock : Nat) : Prop :=
  l.listenFrom ≤ clock ∧ ∀ bytes, l.assembler = .assembling bytes →
    bytes ≠ [] ∧ (∀ n, headerFails (bytes.take n) = false) ∧ frameComplete bytes = false ∧ bytes.length < 20

/-- The timers that may run in each pantograph state (R120). -/
def timerForm (p : Pantograph) : Prop :=
  (p.raiseTimer ≠ none → p.state = .raising) ∧ (p.qualTimer ≠ none → p.state = .raising) ∧
  (p.lossTimer ≠ none → p.state = .contact ∨ p.state = .unloading) ∧ (p.imbalanceTimer ≠ none → p.state = .contact) ∧
  (p.unloadTimer ≠ none → p.state = .unloading) ∧ (p.lowerTimer ≠ none → p.state = .lowering)

/-- The phase, its timers and the crossing's sub-state go together (R46, R84, R89). -/
def phaseForm (e : ShareEngine) : Prop :=
  (e.listenTimer ≠ none ↔ e.phase = .listen) ∧ (e.crossTimer ≠ none ↔ e.phase = .crossing) ∧
  (e.crossSub ≠ .none ↔ e.phase = .crossing) ∧ (e.collapseTimer ≠ none → e.phase = .active)

/-- The overload state and its timers go together (R166, R167). -/
def overloadForm (f : FeederLogic) : Prop :=
  (f.overTimer ≠ none ↔ f.overload = .over) ∧ (f.releaseTimer ≠ none → f.overload = .shedding) ∧
  (f.repeatTimer ≠ none → f.overload = .shedding) ∧ (f.repeatLapsed = true → f.overload = .shedding)

/-- Every part that only a truck uses is at rest: the pantograph LOWERED, its losses unrecorded and its drive low; no hold stands; no
arc is pending or logged and no storm stands; the phase is OFFLINE, with nothing of a collapse, an overflow or a computation; the
limit, the last target and LIMIT's period are 0 and no LSTB pulse has begun. -/
structure State.AtRest (s : State) : Prop where
  lowered  : s.panto.state = .lowered ∧ s.panto.history = [] ∧ s.panto.imbalanceEpisode = false
  drive    : s.panto.dutyInForce = 0 ∧ s.panto.actDirOut = false ∧ s.panto.actPwmOut = false
  holds    : s.holds = []
  arcs     : s.arc.pending = [] ∧ s.arc.log = [] ∧ s.arc.storm = false
  offline  : s.share.phase = .offline ∧ s.share.collapseTimer = none ∧ s.share.episode = false
  computed : s.share.overflowTimer = none ∧ s.share.budget = .empty
  limit    : s.lim.limit = 0 ∧ s.lim.lastTarget = 0 ∧ s.lim.periodValue = 0 ∧ s.lim.markedValue = 0
  pins     : s.lim.applicationMark = false ∧ s.lim.limitOut = false ∧ s.lim.lstbOut = false

/-- The roles: whatever a feeder runs, what only a truck uses stays at rest (R34, R46, R74, R78, R135, R154, R172), and a truck's
overload state stays at rest (R166). -/
def roleForm (s : State) : Prop := (s.isTruck = false → s.AtRest) ∧ (s.isTruck = true → s.feeder = .powerOn)

/-- Every flag in the fresh set is set among the flags, and positions 20 to 31 read 0 (R175). -/
def flagForm (p : TruckPort) : Prop := p.fresh &&& ~~~p.flags = 0 ∧ p.flags >>> 20 = 0

/-- Every field within its range of the table of R180, V_knee and V_collapse as corrected. -/
def configForm (c : Configuration) : Prop :=
  (c.address ≠ 0xFFFF ∧ (2 ≤ c.stormThreshold ∧ c.stormThreshold ≤ 16) ∧ (5 ≤ c.period ∧ c.period ≤ 50)
    ∧ (100 ≤ c.listenTime ∧ c.listenTime ≤ 5000)) ∧
  ((1 ≤ c.weight0 ∧ c.weight0 ≤ 15) ∧ (1 ≤ c.weight1 ∧ c.weight1 ≤ 15) ∧ (1 ≤ c.weight2 ∧ c.weight2 ≤ 15)
    ∧ (1 ≤ c.weight3 ∧ c.weight3 ≤ 15)) ∧
  (c.floor ≤ 1023 ∧ (100 ≤ c.rating ∧ c.rating ≤ 4095) ∧ (10 ≤ c.rampStep ∧ c.rampStep ≤ 1000) ∧ c.capacity ≤ 16383) ∧
  (c.vMin ≤ 4095 ∧ c.vMin < c.vKnee ∧ c.vKnee ≤ 4195 ∧ c.vCollapse ≤ c.vMin ∧ c.vDead ≤ 4095) ∧
  (c.releaseCurrent ≤ 500 ∧ (100 ≤ c.unloadTimeout ∧ c.unloadTimeout ≤ 5000) ∧ (500 ≤ c.raiseTimeout ∧ c.raiseTimeout ≤ 10000)
    ∧ (500 ≤ c.lowerTimeout ∧ c.lowerTimeout ≤ 10000)) ∧
  (c.contactThreshold ≤ 1023 ∧ c.windowLow ≤ 1023 ∧ c.windowHigh ≤ 1023 ∧ c.lossThreshold ≤ 1023
    ∧ (1 ≤ c.lossTime ∧ c.lossTime ≤ 100) ∧ c.imbalanceLimit ≤ 1023) ∧
  (c.raiseDuty ≤ 255 ∧ c.lowerDuty ≤ 255 ∧ c.holdStart ≤ 255 ∧ c.holdMin ≤ 255 ∧ c.holdMax ≤ 255
    ∧ (1 ≤ c.holdStep ∧ c.holdStep ≤ 32)) ∧
  (c.topStop ≤ 4095 ∧ c.loweredThreshold ≤ 4095 ∧ (100 ≤ c.arcWindow ∧ c.arcWindow ≤ 10000)
    ∧ (100 ≤ c.collapseHold ∧ c.collapseHold ≤ 5000) ∧ (100 ≤ c.feederHold ∧ c.feederHold ≤ 5000)
    ∧ (1000 ≤ c.crossingTimeout ∧ c.crossingTimeout ≤ 30000))

/-- The field of one byte at a place of the block, and of two bytes with the high byte first (R180). -/
def placed1 (block : List Byte) (n : Nat) : Nat := (block.getD n 0).toNat
def placed2 (block : List Byte) (n : Nat) : Nat := 256 * placed1 block n + placed1 block (n + 1)

/-- The configuration taken from an accepted block, as the table of R180 reads: each field at its place, at the nearest bound of its
range where it lies outside, the address 0xFFFF read as 0x0000, V_knee at or below V_min taken as V_min + 100, and V_collapse above
V_min as V_min. -/
def TakenFrom (c : Configuration) (block : List Byte) : Prop :=
  let b := placed1 block
  let w := placed2 block
  let used (lo hi raw : Nat) : Nat := max lo (min hi raw)
  (c.address = (if w 1 = 0xFFFF then 0 else BitVec.ofNat 16 (w 1)) ∧ (c.role = .feeder ↔ b 3 % 2 = 1)) ∧
  (c.strobeMode = (if b 3 / 2 % 4 = 0 then .off else if b 3 / 2 % 4 = 1 then .onChange else .everyApplication)) ∧
  (c.stormThreshold = used 2 16 (b 3 / 8) ∧ c.period = used 5 50 (b 4) ∧ c.listenTime = used 100 5000 (w 5) ∧
    c.weight0 = used 1 15 (b 7 / 16) ∧ c.weight1 = used 1 15 (b 7 % 16)) ∧
  (c.weight2 = used 1 15 (b 8 / 16) ∧ c.weight3 = used 1 15 (b 8 % 16) ∧ c.floor = used 0 1023 (w 9) ∧
    c.rating = used 100 4095 (w 11) ∧ c.rampStep = used 10 1000 (w 13)) ∧
  (c.capacity = used 0 16383 (w 15) ∧ c.vMin = used 0 4095 (w 17) ∧ c.vDead = used 0 4095 (w 23) ∧
    c.releaseCurrent = used 0 500 (w 25) ∧ c.unloadTimeout = used 100 5000 (w 27)) ∧
  (c.raiseTimeout = used 500 10000 (w 29) ∧ c.lowerTimeout = used 500 10000 (w 31) ∧
    c.contactThreshold = used 0 1023 (w 33) ∧ c.windowLow = used 0 1023 (w 35) ∧ c.windowHigh = used 0 1023 (w 37)) ∧
  (c.lossThreshold = used 0 1023 (w 39) ∧ c.lossTime = used 1 100 (b 41) ∧ c.imbalanceLimit = used 0 1023 (w 42) ∧
    c.raiseDuty = used 0 255 (b 44) ∧ c.lowerDuty = used 0 255 (b 45)) ∧
  (c.holdStart = used 0 255 (b 46) ∧ c.holdMin = used 0 255 (b 47) ∧ c.holdMax = used 0 255 (b 48) ∧
    c.holdStep = used 1 32 (b 49) ∧ c.topStop = used 0 4095 (w 50)) ∧
  (c.loweredThreshold = used 0 4095 (w 52) ∧ c.arcWindow = used 100 10000 (w 54) ∧
    c.collapseHold = used 100 5000 (w 56) ∧ c.feederHold = used 100 5000 (w 58) ∧
    c.crossingTimeout = used 1000 30000 (w 60)) ∧
  (used 0 4095 (w 17) < used 0 4095 (w 19) → c.vKnee = used 0 4095 (w 19)) ∧
  (used 0 4095 (w 19) ≤ used 0 4095 (w 17) → c.vKnee = used 0 4095 (w 17) + 100) ∧
  c.vCollapse = min (used 0 4095 (w 21)) (used 0 4095 (w 17))

/-- The clamped fields of the table of R180, each as it stands in the block with the bounds of its range. -/
def blockRanges (block : List Byte) : List (Nat × Nat × Nat) :=
  let b := placed1 block
  let w := placed2 block
  [(b 3 / 2 % 4, 0, 2), (b 3 / 8, 2, 16), (b 4, 5, 50), (w 5, 100, 5000), (b 7 / 16, 1, 15), (b 7 % 16, 1, 15),
   (b 8 / 16, 1, 15), (b 8 % 16, 1, 15), (w 9, 0, 1023), (w 11, 100, 4095), (w 13, 10, 1000), (w 15, 0, 16383),
   (w 17, 0, 4095), (w 23, 0, 4095), (w 25, 0, 500), (w 27, 100, 5000), (w 29, 500, 10000), (w 31, 500, 10000),
   (w 33, 0, 1023), (w 35, 0, 1023), (w 37, 0, 1023), (w 39, 0, 1023), (b 41, 1, 100), (w 42, 0, 1023),
   (b 44, 0, 255), (b 45, 0, 255), (b 46, 0, 255), (b 47, 0, 255), (b 48, 0, 255), (b 49, 1, 32), (w 50, 0, 4095),
   (w 52, 0, 4095), (w 54, 100, 10000), (w 56, 100, 5000), (w 58, 100, 5000), (w 60, 1000, 30000), (w 19, 0, 4095),
   (w 21, 0, 4095)]

/-- A field of the block is clamped, its address replaced, or V_knee or V_collapse corrected (R179, R180). -/
def Altered (block : List Byte) : Prop :=
  (∃ r ∈ blockRanges block, r.1 < r.2.1 ∨ r.2.2 < r.1) ∨ placed2 block 1 = 0xFFFF ∨
  min 4095 (placed2 block 19) ≤ min 4095 (placed2 block 17) ∨ min 4095 (placed2 block 17) < min 4095 (placed2 block 21)

/-- Before the end of the load nothing is heard and everything is at rest, and before ready the pantograph has not taken its first
state, no tick runs and no set has moved the overload state (R40, R44, R136, R170, R181). -/
def startupForm (s : State) : Prop :=
  (s.running = false → s.peers = [] ∧ s.AtRest) ∧
  (s.isReady = false → s.share.phase = .offline ∧ s.share.cycleTimer = none ∧ s.panto.state = .lowered ∧ s.arc.pending = [] ∧
    s.feeder.overload = .normal)

/-- The form every piece of state keeps. -/
structure State.Formed (s : State) : Prop where
  table    : tableForm s.config.address s.peers
  holds    : holdForm s.holds
  arcs     : arcForm s.arc
  link     : linkForm s.link
  timers   : timerForm s.panto
  phase    : phaseForm s.share
  overload : overloadForm s.feeder
  flags    : flagForm s.port
  config   : configForm s.config
  startup  : startupForm s
  sweeps   : s.sweeper.abortCount ≤ 4 ∧ s.sweeper.sweepCounter < 64
  written  : s.share.requestedDemand ≤ 4095 ∧ s.share.manualCap ≤ 4095
  ownShed  : s.share.collapseTimer ≠ none → s.config.address ≠ 0
  receiver : assemblerForm s.link s.clock
  roles    : roleForm s

/-- The characters begun at these moments follow one another from `since` on with no gap over 2 ms, and have ended by `clock` (R102,
R105). -/
def following (clock : Nat) : Nat → List Nat → Bool
  | _, [] => true
  | since, start :: rest =>
    decide (since ≤ start) && decide (start ≤ since + 2000) && decide (start + 260 ≤ clock)
      && following clock (start + 260) rest

/-- The characters begun at these moments are all taken at `t` as the bytes of one frame (R105): none ended while MTXEN was asserted
or began before the last one taken had ended, no gap over 2 ms parts them, the last has ended, and the first is byte 0, the assembler being
WAITING or a gap over 2 ms having gone before. -/
def State.hearsWhole (s : State) (t : Nat) (starts : List Nat) : Bool :=
  s.receiving && (match starts with
    | [] => false
    | first :: rest =>
      decide (s.link.listenFrom ≤ first) && decide (first + 260 ≤ max s.clock t) && following (max s.clock t) (first + 260) rest
        && (s.link.assembler == .waiting || decide (s.link.listenFrom + 2000 < first)))

/-- The Carrier Link once a whole frame begun at these moments is received: WAITING, from the end of its last character (R105). -/
def CarrierLink.heard (l : CarrierLink) (starts : List Nat) : CarrierLink :=
  { l with assembler := .waiting, listenFrom := starts.getLastD 0 + 260 }

/-- The station may draw: on the wire, sharing, and allowed to speak (R63). -/
def State.mayDraw (s : State) : Prop := s.panto.state = .contact ∧ s.share.phase = .active ∧ s.mode ≠ .silent

/-- A floor condition stands (R63). -/
def State.floorStands (s : State) : Prop := s.holds ≠ [] ∨ s.arc.storm = true ∨ s.degradedStands = true

/-- The laws of the limit (R63), with the period value never above it (R71), and the phase following the pantograph of a truck, on
which they rest (R46, R49). -/
structure State.LimitLaws (s : State) : Prop where
  rating   : s.lim.limit ≤ s.config.rating
  manual   : s.lim.limit ≤ s.share.manualCap
  demand   : s.lim.limit ≤ s.share.budget.dSelf
  zero     : ¬ s.mayDraw → s.lim.limit = 0
  floor    : s.floorStands → s.lim.limit ≤ s.config.floor
  pulse    : s.lim.periodValue ≤ s.lim.limit
  onWire   : s.share.phase ≠ .offline → s.panto.state = .contact ∧ s.isTruck = true

end Sys2Proof.Machine
end

