-- ==== Sys2Proof/WellFormed.lean ====
section
/-! DEFINITION. When a command is one its row names: the operands that the types alone do not hold to the row. -/

namespace Sys2Proof

/-- Characters that each end with a high stop bit (R105). -/
def allFramed (characters : List Character) : Bool := characters.all (·.framed)

/-- R171: an unknown command's code is outside the command set, and an abandoned transaction lacks a parameter byte; R106: the
characters of a failed header end with the first one that fails; R105: of a framing error's characters the last one has a low stop
bit, and before a gap none has; R25, R35: an ageing entry has a valid station address. Every other row's operands are all
admitted. -/
def Instr.wellFormed (i : Instr) : Bool :=
  match i with
  | .unknownCommand _ code => (paramCount code).isNone
  | .transactionAbandoned _ bytes => incomplete bytes
  | .headerTestFailed _ characters => allFramed characters && headerFails (characters.map (·.byte))
  | .framingError heard =>
    allFramed heard.characters.dropLast && (match heard.characters.getLast? with | some c => !c.framed | none => false)
  | .receiveGapTimeout heard => allFramed heard.characters
  | .entryBecomesStale _ a => a != 0x0000 && a != 0xFFFF
  | .entryRemovedByAge _ a => a != 0x0000 && a != 0xFFFF
  | .readStatus _ => true
  | .readEvents _ => true
  | .clearEvents _ _ => true
  | .writeEventMask _ _ => true
  | .writeDemand _ _ _ => true
  | .writeCap _ _ => true
  | .sectionAhead _ => true
  | .transmitOn _ => true
  | .transmitOff _ => true
  | .raise _ _ => true
  | .lower _ => true
  | .clearFault _ => true
  | .readPeer _ _ => true
  | .readBudget _ => true
  | .readHolds _ => true
  | .readArc _ _ => true
  | .readMeasurements _ => true
  | .readConfig _ => true
  | .readIdentity _ => true
  | .warmReset _ => true
  | .warmResetTaken _ => true
  | .warmNFall _ => true
  | .powerOnReset => true
  | .resetNRelease => true
  | .configurationLoadEnd _ => true
  | .selfcheckEnd _ _ _ => true
  | .cycleTick _ => true
  | .listenTimerExpiry _ => true
  | .overflowTimerExpiry _ => true
  | .crossingTimerExpiry _ => true
  | .collapseTimerExpiry _ => true
  | .holdExpiry _ => true
  | .demandReceived _ _ _ _ => true
  | .supplyReceived _ _ _ _ => true
  | .shedReceived _ _ _ _ => true
  | .departReceived _ _ _ => true
  | .frameDue _ _ => true
  | .transmissionEnd _ => true
  | .sweepComplete _ _ => true
  | .openWireTestComplete _ _ => true
  | .measurementPairHanded _ _ => true
  | .arcStart _ => true
  | .arcEnd _ => true
  | .arcSaturation _ => true
  | .sectAheadFall _ => true
  | .emlowerNFall _ => true
  | .contactQualificationExpiry _ => true
  | .raiseTimerExpiry _ => true
  | .lossTimerExpiry _ => true
  | .imbalanceTimerExpiry _ => true
  | .unloadTimerExpiry _ => true
  | .lowerTimerExpiry _ => true
  | .overTimerExpiry _ => true
  | .repeatTimerExpiry _ => true
  | .releaseTimerExpiry _ => true
  | .periodBoundary _ => true
  | .lstbPulseEnd _ => true
  | .actuatorPeriodBoundary _ => true
  | .channel0SampleHeld _ _ => true
  | .limitPulseEnd _ => true
  | .actuatorPulseEnd _ => true

end Sys2Proof
end

