-- ==== Sys2Proof/Certificates/Slice0/Obligations.lean ====
section
/-! DEFINITION. The statements for the provers. A statement about a command names the state `a` in which the part takes it,
`s.takenAt t` (what that is, `TimePassesOnAnEmptyQueue` says), and gives the next state block by block: `u = { s with … }` says
that every block not named is unchanged. -/

open Sys2Proof Sys2Proof.Machine

/-! ### The queue and time -/

/-- The command at the front of the queue is taken with the queue's rest. -/
def Obligations.StepTakesTheFrontCommand : Prop :=
  ∀ (c : Instr) (rest : List Instr) (s : State), step { s with pending := c :: rest } = exec c { s with pending := rest }

/-- The model's choice (notes/assumptions/2.md and 3.md): with no command waiting one µs passes and the part's own due events join
the queue; before the end of the load nothing does. A command's moment brings the clock there and never back. -/
def Obligations.TimePassesOnAnEmptyQueue : Prop :=
  (∀ s : State, s.pending = [] →
    (s.running = false → step s = .next s) ∧
    (s.running = true → step s = .next { s with
      clock := s.clock + 1
      pending := ({ s with clock := s.clock + 1 } : State).ownEvents })) ∧
  ∀ (t : Nat) (s : State),
    (s.running = true → s.takenAt t = { s with clock := max s.clock t }) ∧ (s.running = false → s.takenAt t = s)

/-! ### Invariants of every step -/

/-- Every step keeps the form of the tables, queues, timers, flags, receive assembler and configuration; and the roles: whatever a
feeder runs, its pantograph stays LOWERED with the drive low, its hold list, pending records and arc log empty, its storm flag clear,
its phase OFFLINE, its limit, last target and LIMIT period 0 (R74, R78, R135, R154, R172), and a truck's overload state stays NORMAL. -/
def Obligations.FormIsKeptByEveryStep : Prop :=
  ∀ s u : State, s.Formed → step s = .next u → u.Formed

/-- R63: every step keeps the laws of the limit; the limit does not rise but at a cycle tick, and there by at most the ramp-up
step. -/
def Obligations.LimitLawsAreKeptByEveryStep : Prop :=
  ∀ s u : State, s.Formed → s.LimitLaws → step s = .next u →
    u.LimitLaws ∧ u.lim.limit ≤ 4095 ∧
    (u.lim.limit ≤ s.lim.limit ∨
      (∃ t, s.pending.head? = some (.cycleTick t)) ∧ u.lim.limit ≤ s.lim.limit + s.config.rampStep)

/-- The state after reset has both. -/
def Obligations.FormAndLimitLawsHoldAtReset : Prop := State.reset.Formed ∧ State.reset.LimitLaws

/-- R2, R54, R105, R149, R178: which commands change the configuration and the load result, the self-check word, the transmit-enable
flag, the event mask, the receive assembler and the moment from which characters are taken; and no other command turns the clock
back. -/
def Obligations.OnlyNamedCommandsChangeLastingState : Prop :=
  ∀ (c : Instr) (s u : State), exec c s = .next u → c ≠ .powerOnReset → c ≠ .resetNRelease →
    (∀ b, c ≠ .configurationLoadEnd b) →
    u.config = s.config ∧ u.loadResult = s.loadResult ∧ s.clock ≤ u.clock ∧
    ((∀ t tests samples, c ≠ .selfcheckEnd t tests samples) →
      u.sweeper.selfCheckWord = s.sweeper.selfCheckWord ∧ u.startup = s.startup) ∧
    ((∀ t, c ≠ .transmitOn t) → (∀ t, c ≠ .transmitOff t) → u.link.txEnable = s.link.txEnable) ∧
    ((∀ t m, c ≠ .writeEventMask t m) → u.port.mask = s.port.mask) ∧
    ((∀ t a d r, c ≠ .demandReceived t a d r) → (∀ t a d r, c ≠ .supplyReceived t a d r) →
      (∀ t a d r, c ≠ .shedReceived t a d r) → (∀ t a r, c ≠ .departReceived t a r) →
      (∀ l, c ≠ .receiveGapTimeout l) → (∀ l, c ≠ .framingError l) → (∀ t l, c ≠ .headerTestFailed t l) →
      ((∀ t b, c ≠ .frameDue t b) → u.link.assembler = s.link.assembler) ∧
      ((∀ t, c ≠ .transmissionEnd t) → u.link.listenFrom = s.link.listenFrom))

/-! ### The share computation -/

/-- R4 and R5: the droop factor by the rows of R4, and the droop cap; at factor 0 the station asks for nothing and is given
nothing. That the factor follows the kept code from the test that finds channel 1 good, and not from the next valid set (R144), is the
model's choice (notes/assumptions/34.md). -/
def Obligations.DroopCapFollowsTheVoltage : Prop :=
  ∀ s : State, s.config.vMin < s.config.vKnee → s.config.rating ≤ 4095 →
    (s.openChannel 1 = true → s.droop = 256) ∧
    (s.openChannel 1 = false → s.config.vKnee ≤ s.code 1 → s.droop = 256) ∧
    (s.openChannel 1 = false → s.code 1 ≤ s.config.vMin → s.droop = 0) ∧
    (s.openChannel 1 = false → s.config.vMin < s.code 1 → s.code 1 < s.config.vKnee →
      s.droop = 256 * (s.code 1 - s.config.vMin) / (s.config.vKnee - s.config.vMin) ∧ s.droop ≤ 255 ∧
      256 * (s.code 1 - s.config.vMin) ≤ 1048320) ∧
    s.droop ≤ 256 ∧ s.droopCap = s.config.rating * s.droop / 256 ∧ s.config.rating * s.droop ≤ 1048320 ∧
    (s.droop = 256 → s.droopCap = s.config.rating) ∧ s.droopCap ≤ s.config.rating ∧
    (s.droop = 0 → s.droopCap = 0 ∧ s.dSelf = 0 ∧ ((∀ i ∈ s.sharers, 1 ≤ i.weight) → s.target = 0))

/-- R7: the effective demand, and what the floor cap makes of it. -/
def Obligations.EffectiveDemandIsTheLesserOfDemandAndCap : Prop :=
  ∀ s : State, s.share.requestedDemand ≤ 4095 →
    s.dSelf = min s.share.requestedDemand s.localCap ∧ s.dSelf ≤ 4095 ∧ s.ownSharer.demand = s.dSelf ∧
    s.demandPayload.effectiveDemand = BitVec.ofNat 16 s.dSelf ∧
    ((s.holds ≠ [] ∨ s.overflowStands = true ∨ s.openChannel 0 = true ∨ s.openChannel 1 = true ∨ s.arc.storm = true) →
      s.localCap = min (min (min s.config.rating s.share.manualCap) s.droopCap) s.config.floor ∧
      s.dSelf ≤ s.config.floor ∧ s.ownSharer.secured = s.dSelf ∧ s.ownSharer.excess = 0) ∧
    (s.holds = [] → s.overflowStands = false → s.openChannel 0 = false → s.openChannel 1 = false → s.arc.storm = false →
      s.localCap = min (min s.config.rating s.share.manualCap) s.droopCap)

/-- R8: C and U come from the FRESH feeder entry of the lowest address, and from the configuration with U = 0 where none is. -/
def Obligations.LowestFreshFeederSuppliesTheBudget : Prop :=
  ∀ s : State, s.peers.Pairwise (fun p q => p.address.toNat < q.address.toNat) →
    (∀ p d, p ∈ s.peers → p.part = .feeder d → p.isFresh s.now = true →
      (∀ q e, q ∈ s.peers → q.part = .feeder e → q.isFresh s.now = true → p.address.toNat ≤ q.address.toNat) →
      s.budgetCapacity = d.capacity ∧ s.budgetUnaccounted = d.unaccounted) ∧
    ((∀ q e, q ∈ s.peers → q.part = .feeder e → q.isFresh s.now = false) →
      s.budgetCapacity = s.config.capacity ∧ s.budgetUnaccounted = 0)

/-- R9 and R10: the stale reserve, and the budget over signed integers, 0 below 0 and 16383 above it. -/
def Obligations.BudgetIsCapacityLessReserves : Prop :=
  ∀ s : State,
    s.staleReserve = (s.peers.filterMap fun p =>
      match p.part with
      | .truck d => if p.isFresh s.now then none else some d.allocation
      | .feeder _ => none).sum ∧
    (s.budget : Int) =
      max 0 (min 16383 ((s.budgetCapacity : Int) - s.budgetUnaccounted - s.staleReserve)) ∧
    (tableForm s.config.address s.peers → s.config.capacity ≤ 16383 →
      s.staleReserve ≤ 49140 ∧ -65523 ≤ (s.budgetCapacity : Int) - s.budgetUnaccounted - s.staleReserve ∧
      (s.budgetCapacity : Int) - s.budgetUnaccounted - s.staleReserve ≤ 16383)

/-- R13: floors that exceed the budget. -/
def Obligations.ScarceBudgetIsDividedByFloors : Prop :=
  ∀ (budget : Nat) (l : List Sharer), budget < securedSum l →
    (divideBudget budget l).stage = 1 ∧
    (divideBudget budget l).portions =
      l.map (fun i => { sharer := i, amount := min i.floor i.demand * budget / securedSum l }) ∧
    (∀ p ∈ (divideBudget budget l).portions, p.amount ≤ min p.sharer.floor p.sharer.demand) ∧
    (divideBudget budget l).unallocated + allocated (divideBudget budget l).portions = budget ∧
    (divideBudget budget l).unallocated < l.length ∧
    (budget ≤ 16383 → ∀ i ∈ l, i.floor ≤ 1023 → i.secured * budget ≤ 16759809)

/-- R15: the order of stage 5b. -/
def Obligations.SharersStandInOrderOfRatio : Prop :=
  ∀ l : List Sharer, (∀ i ∈ l, 1 ≤ i.weight) → l.Pairwise (fun i j => i.address ≠ j.address) →
    (orderSharers l).Perm l ∧
    (orderSharers l).Pairwise (fun i j =>
      i.excess * j.weight < j.excess * i.weight ∨
      i.excess * j.weight = j.excess * i.weight ∧ i.address.toNat < j.address.toNat) ∧
    ((∀ i ∈ l, i.demand ≤ 4095 ∧ i.weight ≤ 15) → ∀ i ∈ l, ∀ j ∈ l, i.excess * j.weight ≤ 61425)

/-- R14, R16 to R18: floors within the budget. The walk settles the sharers before place `k` of the order of R15 at their demands, each
by the test e_i × W ≤ E × w_i with the E and W of its own step; the sharer at `k` fails that test, and it and every later one receive
g_j + floor(E × w_j / W); what is then left of E is the unallocated amount. -/
def Obligations.WaterFillSpendsTheBudgetOnDemands : Prop :=
  ∀ (budget : Nat) (l : List Sharer), securedSum l ≤ budget → (∀ i ∈ l, 1 ≤ i.weight) →
    let excess (i : Sharer) : Nat := i.demand - min i.floor i.demand
    let order := orderSharers l
    let residual (n : Nat) : Nat := budget - securedSum l - ((order.take n).map excess).sum
    let weights (n : Nat) : Nat := ((order.drop n).map (·.weight)).sum
    (divideBudget budget l).stage = 2 ∧
    (∃ k, k ≤ order.length ∧
      (∀ n i, n < k → order[n]? = some i → excess i * weights n ≤ residual n * i.weight ∧ excess i ≤ residual n) ∧
      (∀ i, order[k]? = some i → residual k * i.weight < excess i * weights k) ∧
      (divideBudget budget l).portions =
        (order.take k).map (fun i => { sharer := i, amount := i.demand }) ++
        (order.drop k).map (fun j => { sharer := j, amount := min j.floor j.demand + residual k * j.weight / weights k }) ∧
      (divideBudget budget l).unallocated =
        residual k - ((order.drop k).map fun j => residual k * j.weight / weights k).sum) ∧
    ((divideBudget budget l).portions.map (·.sharer)).Perm l ∧
    (∀ p ∈ (divideBudget budget l).portions, p.sharer.secured ≤ p.amount ∧ p.amount ≤ p.sharer.demand) ∧
    allocated (divideBudget budget l).portions + (divideBudget budget l).unallocated = budget ∧
    ((∃ p ∈ (divideBudget budget l).portions, p.amount < p.sharer.demand) →
      (divideBudget budget l).unallocated < l.length)

/-- R23's guarantees of every computation. -/
def Obligations.EveryComputationKeepsWithinTheBudget : Prop :=
  ∀ s : State, (∀ i ∈ s.sharers, 1 ≤ i.weight) →
    s.budget ≤ 16383 ∧ (∀ p ∈ s.division.portions, p.amount ≤ p.sharer.demand) ∧
    allocated s.division.portions ≤ s.budget ∧
    s.target ≤ s.dSelf ∧ s.target ≤ s.config.rating ∧ s.target ≤ s.share.manualCap ∧ s.target ≤ s.droopCap ∧
    (s.floorInForce = true → s.target ≤ s.config.floor)

/-- R24, the own station alone: the target is the lesser of the effective demand and the budget in either stage. -/
def Obligations.StationAloneTakesTheLesserOfDemandAndBudget : Prop :=
  ∀ s : State, 1 ≤ s.ownWeight → (∀ p d, p ∈ s.peers → p.part = .truck d → p.isFresh s.now = false) →
    s.sharers = [s.ownSharer] ∧ s.target = min s.dSelf s.budget

/-- CYCLE_TICK in ACTIVE and not SILENT (R1, R19 to R21, R44, R64): the record, the target applied to the Limit Generator, the DEMAND
placed and the timer, all from the state the tick finds; and then the storm count of R160 (`ArcStormHasTwoThresholds`) is taken in
`v`, which may cap the limit at the floor. The timer is started for one period more; that a tick taken more than a period late keeps
the timer's spacing is the model's choice (notes/assumptions/23.md). -/
def Obligations.TickInActiveComputesTheShare : Prop :=
  ∀ (t d : Nat) (s : State), s.startup = .ready → s.isTruck = true → s.share.phase = .active → s.mode ≠ .silent →
    s.share.cycleTimer = some d → d ≤ max s.clock t → 1 ≤ s.config.period →
    let a := s.takenAt t
    let limit := if s.lim.limit < a.target then min (s.lim.limit + s.config.rampStep) a.target else a.target
    let period := 10000 * s.config.period
    ∃ v : State, exec (.cycleTick t) s = .next v.takeStormCount ∧
      (a.clock < d + period → v.share.cycleTimer = some (d + period)) ∧
      (∃ n, v.share.cycleTimer = some (d + n * period) ∧ a.clock < d + n * period ∧ d + n * period ≤ a.clock + period) ∧
      v.share = { s.share with
        cycleTimer := v.share.cycleTimer
        budget := {
          capacity := a.budgetCapacity, unaccounted := a.budgetUnaccounted, staleReserve := a.staleReserve, budget := a.budget,
          sharers := a.sharers.length, securedSum := (a.sharers.map fun i => min i.floor i.demand).sum,
          stage := if a.budget < securedSum a.sharers then 1 else 2, dSelf := a.dSelf, aSelf := a.target, target := a.target,
          limit := limit, unallocated := a.division.unallocated } } ∧
      v.lim = (a.applyTarget a.target).lim ∧ v.lim.limit = limit ∧ v.lim.lastTarget = a.target ∧
      (∃ q, v.link = s.link.place .periodic q.frame a.clock ∧ v.link.periodic = some q ∧
        q.attempts = (s.link.periodic.map (·.attempts)).getD 0 ∧ q.frame = { source := s.config.address, payload := .demand {
          sharingMode := byte1 (match s.mode with | .degraded => 3 | .held => 2 | _ => 1)
          weight := byte1 s.ownWeight
          period := byte1 s.config.period
          effectiveDemand := BitVec.ofNat 16 a.dSelf
          floor := BitVec.ofNat 16 s.config.floor
          allocation := BitVec.ofNat 16 a.target
          measured := BitVec.ofNat 16 (s.code 0)
          voltage := BitVec.ofNat 16 (s.code 1) } }) ∧
      v.link.shed = s.link.shed ∧ v.link.depart = s.link.depart ∧
      v = { s with clock := a.clock, share := v.share, lim := v.lim, link := v.link }

/-- CYCLE_TICK of a truck in SILENT, and in a phase without a mode (R44, R45, R160): target 0, or no target; nothing is queued, the
record is kept, the timer is started for one period more, and the storm count is taken. That a tick taken more than a period late
keeps the timer's spacing is the model's choice (notes/assumptions/23.md). -/
def Obligations.TickWithoutComputationQueuesNothing : Prop :=
  ∀ (t d : Nat) (s : State), s.startup = .ready → s.isTruck = true → s.share.cycleTimer = some d → d ≤ max s.clock t →
    1 ≤ s.config.period →
    let now := max s.clock t
    let period := 10000 * s.config.period
    ∃ next, (now < d + period → next = d + period) ∧
      (∃ n, next = d + n * period ∧ now < d + n * period ∧ d + n * period ≤ now + period) ∧
      (s.share.phase = .active → s.mode = .silent → ∃ v : State, exec (.cycleTick t) s = .next v.takeStormCount ∧
        v.lim = ((s.takenAt t).applyTarget 0).lim ∧ v.lim.limit = 0 ∧ v.lim.lastTarget = 0 ∧
        v = { s with clock := now, share := { s.share with cycleTimer := some next }, lim := v.lim }) ∧
      (s.share.phase ≠ .active → exec (.cycleTick t) s = .next (State.takeStormCount
        { s with clock := now, share := { s.share with cycleTimer := some next } }))

/-- CYCLE_TICK of a feeder (R44, R164, R165): the SUPPLY in the periodic slot, where the link takes it, and the timer started for one
period more. That a tick taken more than a period late keeps the timer's spacing is the model's choice (notes/assumptions/23.md). -/
def Obligations.FeederTickQueuesItsSupply : Prop :=
  ∀ (t d : Nat) (s : State), s.startup = .ready → s.isTruck = false → s.share.cycleTimer = some d → d ≤ max s.clock t →
    1 ≤ s.config.period →
    let a := s.takenAt t
    let period := 10000 * s.config.period
    let invalid := s.openChannel 0 || s.openChannel 1
    let freshSum := (s.peers.filterMap fun p =>
      match p.part with
      | .truck e => if p.isFresh a.now then some e.measured else none
      | .feeder _ => none).sum
    ∃ u, exec (.cycleTick t) s = .next u ∧
      (a.clock < d + period → u.share.cycleTimer = some (d + period)) ∧
      (∃ n, u.share.cycleTimer = some (d + n * period) ∧ a.clock < d + n * period ∧ d + n * period ≤ a.clock + period) ∧
      (s.link.txEnable = true → s.config.address ≠ 0 →
        (∃ q, u.link = s.link.place .periodic q.frame a.clock ∧ u.link.periodic = some q ∧
          q.attempts = (s.link.periodic.map (·.attempts)).getD 0 ∧ q.frame = { source := s.config.address, payload := .supply {
            period := byte1 s.config.period
            capacity := BitVec.ofNat 16 s.config.capacity
            feederCurrent := BitVec.ofNat 16 (4 * s.code 0)
            unaccounted := BitVec.ofNat 16 (if invalid then 0 else min 16383 (4 * s.code 0 - freshSum))
            voltage := BitVec.ofNat 16 (s.code 1)
            flags := byte1 ((if s.feeder.overload = .normal then 0 else 1) + (if invalid then 2 else 0)) } })) ∧
      (s.link.txEnable = false ∨ s.config.address = 0 → u.link = s.link) ∧
      u = { s with clock := max s.clock t, share := { s.share with cycleTimer := u.share.cycleTimer }, link := u.link }

/-! ### The limit -/

/-- R64: a target application: a rise by at most the ramp-up step, left to the next boundary; a fall taken whole, at once where it goes
below the period value; in strobe mode 2 the application is marked. Nothing but the Limit Generator changes. -/
def Obligations.TargetIsRampedUpAndFallsWhole : Prop :=
  ∀ (s : State) (target : Nat),
    (s.lim.limit < target → (s.applyTarget target).lim.limit = min (s.lim.limit + s.config.rampStep) target) ∧
    (target ≤ s.lim.limit → (s.applyTarget target).lim.limit = target) ∧
    (s.applyTarget target).lim.lastTarget = target ∧
    (s.lim.periodValue ≤ target → s.lim.periodValue ≤ s.lim.limit →
      (s.applyTarget target).lim.periodValue = s.lim.periodValue ∧ (s.applyTarget target).lim.limitOut = s.lim.limitOut ∧
      ((s.applyTarget target).lim.applicationMark = true ↔
        s.lim.applicationMark = true ∨ s.config.strobeMode = .everyApplication)) ∧
    (target ≤ s.lim.limit → target < s.lim.periodValue →
      (s.applyTarget target).lim.periodValue = target ∧
      (s.applyTarget target).lim.limitOut = (s.lim.limitOut && decide (s.clock % 4096 < target)) ∧
      (s.config.strobeMode ≠ .off → (s.applyTarget target).lim.lstbOut = true ∧
        (s.applyTarget target).lim.lstbUntil = s.clock + 100 ∧ (s.applyTarget target).lim.markedValue = target ∧
        (s.applyTarget target).lim.applicationMark = false) ∧
      (s.config.strobeMode = .off → (s.applyTarget target).lim.lstbOut = s.lim.lstbOut ∧
        (s.applyTarget target).lim.markedValue = s.lim.markedValue)) ∧
    s.applyTarget target = { s with lim := (s.applyTarget target).lim }

/-- R65, R71 and R73: an immediate cap makes the limit the lesser of the two and leaves the last target; below the period value it
cuts the present period to the new limit at once, LIMIT staying high only while the counter is below it, and in modes 1 and 2 it
strobes at once for 100 µs; a cap at or above the limit changes nothing. -/
def Obligations.ImmediateCapOnlyLowersTheLimit : Prop :=
  ∀ (s : State) (cap : Nat),
    (s.lim.limit ≤ cap → s.immediateCap cap = s) ∧
    (s.immediateCap cap).lim.limit = min s.lim.limit cap ∧
    (s.immediateCap cap).lim.lastTarget = s.lim.lastTarget ∧
    (s.immediateCap cap).lim.nextBoundary = s.lim.nextBoundary ∧
    (cap < s.lim.limit → s.lim.periodValue ≤ cap → s.immediateCap cap = { s with lim := { s.lim with limit := cap } }) ∧
    (cap < s.lim.limit → cap < s.lim.periodValue →
      (s.immediateCap cap).lim.periodValue = cap ∧
      (s.immediateCap cap).lim.limitOut = (s.lim.limitOut && decide (s.clock % 4096 < cap)) ∧
      (s.config.strobeMode = .off →
        (s.immediateCap cap).lim.lstbOut = s.lim.lstbOut ∧ (s.immediateCap cap).lim.markedValue = s.lim.markedValue) ∧
      (s.config.strobeMode ≠ .off →
        (s.immediateCap cap).lim.lstbOut = true ∧ (s.immediateCap cap).lim.lstbUntil = s.clock + 100 ∧
        (s.immediateCap cap).lim.markedValue = cap ∧ (s.immediateCap cap).lim.applicationMark = false)) ∧
    s.immediateCap cap = { s with lim := (s.immediateCap cap).lim }

/-- WRITE CAP (R67): the cap, clamped to 4095, is stored and presented as an immediate cap in the same event. -/
def Obligations.WriteCapStoresAndCapsAtOnce : Prop :=
  ∀ (t : Nat) (cap : Half) (s : State), s.startup = .ready →
    ∃ u, exec (.writeCap t cap) s = .next u ∧
      u.share = { s.share with manualCap := min 4095 cap.toNat } ∧
      u.lim = ((s.takenAt t).immediateCap (min 4095 cap.toNat)).lim ∧
      u.lim.limit = min s.lim.limit (min 4095 cap.toNat) ∧ (cap = 0 → u.lim.limit = 0 ∧ u.dSelf = 0) ∧
      u.port.response = [0x00] ∧
      u = { s with clock := max s.clock t, share := u.share, lim := u.lim, port := { s.port with response := u.port.response } }

/-- PERIOD_BOUNDARY, LIMIT_PULSE_END and LSTB_PULSE_END (R69, R70, R72, R73): at a boundary the period value takes the limit, LIMIT
rises for a value above 0 and LSTB pulses as the strobe mode says; LIMIT falls when the counter reaches the value, and LSTB after its
100 µs. An end that is not due changes nothing but the clock. -/
def Obligations.LimitOutputFollowsThePeriod : Prop :=
  ∀ (t : Nat) (s : State), s.startup = .ready ∨ s.startup = .selfCheck →
    (s.lim.nextBoundary ≤ max s.clock t → ∃ u, exec (.periodBoundary t) s = .next u ∧
      u.lim.limit = s.lim.limit ∧ u.lim.lastTarget = s.lim.lastTarget ∧ u.lim.periodValue = s.lim.limit ∧
      (u.lim.limitOut = true ↔ 0 < s.lim.limit) ∧
      u.lim.nextBoundary % 4096 = 0 ∧ max s.clock t < u.lim.nextBoundary ∧ u.lim.nextBoundary ≤ max s.clock t + 4096 ∧
      (∀ pulses : Prop, (pulses ↔ s.config.strobeMode ≠ .off ∧ (s.lim.limit ≠ s.lim.markedValue ∨
          s.config.strobeMode = .everyApplication ∧ s.lim.applicationMark = true)) →
        (pulses → u.lim.lstbOut = true ∧ u.lim.lstbUntil = max s.clock t + 100 ∧ u.lim.markedValue = s.lim.limit ∧
          u.lim.applicationMark = false) ∧
        (¬ pulses → u.lim.lstbOut = s.lim.lstbOut ∧ u.lim.markedValue = s.lim.markedValue ∧
          u.lim.applicationMark = s.lim.applicationMark)) ∧
      u = { s with clock := max s.clock t, lim := u.lim }) ∧
    (s.lim.limitOut = true → s.lim.nextBoundary + s.lim.periodValue ≤ max s.clock t + 4096 →
      exec (.limitPulseEnd t) s = .next { s with clock := max s.clock t, lim := { s.lim with limitOut := false } }) ∧
    (max s.clock t + 4096 < s.lim.nextBoundary + s.lim.periodValue →
      exec (.limitPulseEnd t) s = .next { s with clock := max s.clock t }) ∧
    (s.lim.lstbOut = true → s.lim.lstbUntil ≤ max s.clock t →
      exec (.lstbPulseEnd t) s = .next { s with clock := max s.clock t, lim := { s.lim with lstbOut := false } }) ∧
    (max s.clock t < s.lim.lstbUntil → exec (.lstbPulseEnd t) s = .next { s with clock := max s.clock t })

/-! ### The peer table -/

/-- R108: the fields of a received frame as the part takes them, each clamped on its own. -/
def Obligations.ReceivedFieldsAreClamped : Prop :=
  (∀ p : DemandPayload, takenDemand p = {
      sharingMode := if p.sharingMode = 1 then 1 else if p.sharingMode = 2 then 2 else 3
      weight := if p.weight = 0 then 1 else min 15 p.weight.toNat
      effectiveDemand := min 4095 p.effectiveDemand.toNat
      floor := min 1023 p.floor.toNat
      allocation := min 4095 p.allocation.toNat
      measured := min 4095 p.measured.toNat
      voltage := p.voltage.toNat } ∧
    takenPeriod p.period = max 5 (min 50 p.period.toNat)) ∧
  (∀ p : SupplyPayload, takenSupply p = {
      capacity := min 16383 p.capacity.toNat
      feederCurrent := min 16383 p.feederCurrent.toNat
      unaccounted := min 16383 p.unaccounted.toNat
      voltage := p.voltage.toNat
      flags := p.flags } ∧
    takenPeriod p.period = max 5 (min 50 p.period.toNat)) ∧
  ∀ p : ShedPayload, takenHold p = min 500 p.holdTime.toNat

/-- DEMAND_RECEIVED and SUPPLY_RECEIVED where the sender is known or the table has room (R28 to R30): the table holds the frame's
entry, heard now and FRESH, and every other entry as before, in address order; a known sender's place and the number of entries
stay. -/
def Obligations.AcceptedFrameUpdatesOrInsertsItsSender : Prop :=
  ∀ (t : Nat) (a : Address) (s : State) (i : Instr) (p : Peer) (f : Frame) (starts : List Nat), s.startup = .ready →
    s.hearsWhole t starts = true → validAddress a → a ≠ s.config.address → tableForm s.config.address s.peers →
    ((∃ d v, f = ⟨a, .demand d⟩ ∧ i = .demandReceived t a d ⟨f.crc, v⟩ ∧ v.toList = starts ∧
        p = ⟨a, takenPeriod d.period, (s.takenAt t).now, .truck (takenDemand d), false⟩) ∨
     (∃ d v, f = ⟨a, .supply d⟩ ∧ i = .supplyReceived t a d ⟨f.crc, v⟩ ∧ v.toList = starts ∧
        p = ⟨a, takenPeriod d.period, (s.takenAt t).now, .feeder (takenSupply d), false⟩)) →
    ((∃ q ∈ s.peers, q.address = a) ∨ s.peers.length < 12) →
    ∃ u, exec i s = .next u ∧ tableForm s.config.address u.peers ∧
      p ∈ u.peers ∧ p.isFresh u.now = true ∧
      (∀ q, q.address ≠ a → (q ∈ u.peers ↔ q ∈ s.peers)) ∧
      ((∃ q ∈ s.peers, q.address = a) → u.peers.map (·.address) = s.peers.map (·.address)) ∧
      ((∀ q ∈ s.peers, q.address ≠ a) → u.peers.length = s.peers.length + 1) ∧
      u = { s with clock := max s.clock t, peers := u.peers, link := s.link.heard starts }

/-- DEMAND_RECEIVED and SUPPLY_RECEIVED from an unknown address with 12 entries (R31 to R34): the STALE entry of the greatest age goes,
of equal ages the lowest address; with none STALE the frame is refused with TABLE_OVERFLOW, and on a truck the overflow timer runs
its full length, the floor capping the limit where no DEGRADED condition stood. That no cap is laid where one stood is the model's
reading of R66 against R33 (notes/assumptions/12.md). -/
def Obligations.FullTableEvictsTheOldestOrRefuses : Prop :=
  ∀ (t : Nat) (a : Address) (s : State) (i : Instr) (p : Peer) (f : Frame) (starts : List Nat), s.startup = .ready →
    s.hearsWhole t starts = true → validAddress a → a ≠ s.config.address → tableForm s.config.address s.peers →
    ((∃ d v, f = ⟨a, .demand d⟩ ∧ i = .demandReceived t a d ⟨f.crc, v⟩ ∧ v.toList = starts ∧
        p = ⟨a, takenPeriod d.period, (s.takenAt t).now, .truck (takenDemand d), false⟩) ∨
     (∃ d v, f = ⟨a, .supply d⟩ ∧ i = .supplyReceived t a d ⟨f.crc, v⟩ ∧ v.toList = starts ∧
        p = ⟨a, takenPeriod d.period, (s.takenAt t).now, .feeder (takenSupply d), false⟩)) →
    (∀ q ∈ s.peers, q.address ≠ a) → s.peers.length = 12 →
    (∀ v ∈ s.peers, v.isFresh (s.takenAt t).now = false →
      (∀ q ∈ s.peers, q.isFresh (s.takenAt t).now = false → q.age (s.takenAt t).now ≤ v.age (s.takenAt t).now ∧
        (q.age (s.takenAt t).now = v.age (s.takenAt t).now → v.address.toNat ≤ q.address.toNat)) →
      ∃ u, exec i s = .next u ∧ tableForm s.config.address u.peers ∧ u.peers.length = 12 ∧
        (∀ q, q ∈ u.peers ↔ q = p ∨ q ∈ s.peers ∧ q.address ≠ v.address) ∧
        u = { s with clock := max s.clock t, peers := u.peers, link := s.link.heard starts }) ∧
    ((∀ q ∈ s.peers, q.isFresh (s.takenAt t).now = true) →
      ∃ u, exec i s = .next u ∧ u.port = s.port.raise .tableOverflow ∧
        (s.isTruck = true → u.share = { s.share with overflowTimer := some (max s.clock t + 100000 * s.config.period) } ∧
          (s.degradedStands = false → u.lim = ((s.takenAt t).immediateCap s.config.floor).lim) ∧
          (s.degradedStands = true → u.lim = s.lim)) ∧
        (s.isTruck = false → u.share = s.share ∧ u.lim = s.lim) ∧
        u = { s with
          clock := max s.clock t, share := u.share, lim := u.lim, port := u.port, link := s.link.heard starts })

/-- R105 to R107. A character received: WAITING takes it as byte 0, ASSEMBLING as the next byte, HUNTING discards it, a gap over 2 ms
before it having made the assembler WAITING; one begun before `listenFrom` is not taken, the earliest start of one that ended after the own
transmission (R105; in its very µs by the model's choice, notes/assumptions/14.md). A whole frame of any kind with a wrong CRC or the
source 0x0000 or 0xFFFF is dropped silently, one from the own address with ADDRESS_CLASH. A header byte that fails its test
(byte 0 not 0xA5, byte 1 no kind, byte 4 not the kind's length) and a framing error leave the assembler hunting, where whole frames are
discarded; a gap over 2 ms, not one of exactly 2 ms, leaves it waiting. While MTXEN is asserted nothing is taken and no gap timed. -/
def Obligations.DroppedFramesReachNoTable : Prop :=
  (∀ (s : State) (x : Nat) (b : Byte), s.receiving = true →
    let becomes (a : Assembler) : Prop :=
      s.takeCharacter ⟨x, b, true⟩ = { s with link := { s.link with assembler := a, listenFrom := x + 260 } }
    (x < s.link.listenFrom ∨ s.clock < x + 260 → ∀ g, s.takeCharacter ⟨x, b, g⟩ = s) ∧
    (s.link.listenFrom ≤ x → x + 260 ≤ s.clock →
      (s.link.assembler = .waiting ∨ s.link.listenFrom + 2000 < x → b = 0xA5 → becomes (.assembling [b])) ∧
      (∀ begun, s.link.assembler = .assembling begun → x ≤ s.link.listenFrom + 2000 → headerFails (begun ++ [b]) = false →
        (begun.length < 4 ∨ begun.length < 6 + ((begun ++ [b]).getD 4 0).toNat) → becomes (.assembling (begun ++ [b]))) ∧
      (s.link.assembler = .hunting → x ≤ s.link.listenFrom + 2000 → becomes .hunting))) ∧
  ∀ (t : Nat) (s : State), s.startup = .ready →
    let becomes (i : Instr) (a : Assembler) (from_ : Nat) : Prop :=
      exec i s = .next { s with clock := max s.clock t, link := { s.link with assembler := a, listenFrom := from_ } }
    let ignored (i : Instr) : Prop := exec i s = .next { s with clock := max s.clock t }
    (∀ (a : Address) (crc : Half) (i : Instr) (f : Frame) (starts : List Nat),
      ((∃ d v, f = ⟨a, .demand d⟩ ∧ i = .demandReceived t a d ⟨crc, v⟩ ∧ v.toList = starts) ∨
        (∃ d v, f = ⟨a, .supply d⟩ ∧ i = .supplyReceived t a d ⟨crc, v⟩ ∧ v.toList = starts) ∨
        (∃ d v, f = ⟨a, .shed d⟩ ∧ i = .shedReceived t a d ⟨crc, v⟩ ∧ v.toList = starts) ∨
        (∃ v, f = ⟨a, .depart⟩ ∧ i = .departReceived t a ⟨crc, v⟩ ∧ v.toList = starts)) →
      (s.hearsWhole t starts = true → (crc ≠ f.crc ∨ a = 0x0000 ∨ a = 0xFFFF) →
        becomes i .waiting (starts.getLastD 0 + 260)) ∧
      (s.hearsWhole t starts = true → crc = f.crc → a ≠ 0x0000 → a ≠ 0xFFFF → a = s.config.address →
        exec i s = .next { s with
          clock := max s.clock t, link := s.link.heard starts, port := s.port.raise .addressClash }) ∧
      (s.mtxen = false → s.link.assembler = .hunting → following (max s.clock t) s.link.listenFrom starts = true →
        becomes i .hunting (starts.getLastD 0 + 260)) ∧
      ((∀ x ∈ starts, x < s.link.listenFrom) ∨ s.mtxen = true → ignored i)) ∧
    (∀ (b0 b1 b2 b3 b4 : Byte) (x0 x1 x2 x3 x4 : Nat),
      (b0 ≠ 0xA5 → s.hearsWhole t [x0] = true → becomes (.headerTestFailed t [⟨x0, b0, true⟩]) .hunting (x0 + 260)) ∧
      (b1 ≠ 0x01 → b1 ≠ 0x02 → b1 ≠ 0x03 → b1 ≠ 0x04 → s.hearsWhole t [x0, x1] = true →
        becomes (.headerTestFailed t [⟨x0, 0xA5, true⟩, ⟨x1, b1, true⟩]) .hunting (x1 + 260)) ∧
      ((b1 = 0x01 ∧ b4 ≠ 13 ∨ b1 = 0x02 ∧ b4 ≠ 10 ∨ b1 = 0x03 ∧ b4 ≠ 3 ∨ b1 = 0x04 ∧ b4 ≠ 0) →
        s.hearsWhole t [x0, x1, x2, x3, x4] = true →
        becomes (.headerTestFailed t
          [⟨x0, 0xA5, true⟩, ⟨x1, b1, true⟩, ⟨x2, b2, true⟩, ⟨x3, b3, true⟩, ⟨x4, b4, true⟩]) .hunting (x4 + 260))) ∧
    (∀ (x : Nat) (b : Byte), s.mtxen = false → s.link.listenFrom ≤ x → x + 260 ≤ max s.clock t →
      becomes (.framingError ⟨t, [⟨x, b, false⟩]⟩) .hunting (x + 260)) ∧
    (s.mtxen = false → s.link.listenFrom + 2000 < max s.clock t →
      becomes (.receiveGapTimeout ⟨t, []⟩) .waiting s.link.listenFrom) ∧
    (max s.clock t ≤ s.link.listenFrom + 2000 → ignored (.receiveGapTimeout ⟨t, []⟩)) ∧
    (s.mtxen = true → ∀ l, ignored (.framingError ⟨t, l⟩) ∧ ignored (.receiveGapTimeout ⟨t, l⟩) ∧ ignored (.headerTestFailed t l))

/-- DEPART_RECEIVED (R38): the sender's entry goes, if present, whatever its role and freshness; nothing else changes. -/
def Obligations.DepartRemovesItsSender : Prop :=
  ∀ (t : Nat) (a : Address) (starts : Vector Nat 7) (s : State), s.startup = .ready → s.hearsWhole t starts.toList = true →
    validAddress a → a ≠ s.config.address →
    ∃ u, exec (.departReceived t a ⟨Frame.crc ⟨a, .depart⟩, starts⟩) s = .next u ∧
      (∀ q, q ∈ u.peers ↔ q ∈ s.peers ∧ q.address ≠ a) ∧ List.Sublist u.peers s.peers ∧
      u = { s with clock := max s.clock t, peers := u.peers, link := s.link.heard starts.toList }

/-- ENTRY_BECOMES_STALE, ENTRY_REMOVED_BY_AGE and OVERFLOW_TIMER_EXPIRY (R33, R35 to R37): an entry is FRESH below the age of 300
ms for each unit of its period and STALE above it; at that very age it is FRESH until the transition is taken and STALE from then on,
for a tick of the same millisecond too. At 1000 ms for each unit it is removed, and no other entry; the overflow condition ends with
its timer and changes no limit. None raises an event. -/
def Obligations.EntriesAgeAndTheOverflowEnds : Prop :=
  (∀ (p : Peer) (now : Reading),
    ((now - p.lastHeard).toNat < 300 * p.period → p.isFresh now = true) ∧
    (300 * p.period < (now - p.lastHeard).toNat → p.isFresh now = false) ∧
    ((now - p.lastHeard).toNat = 300 * p.period → p.isFresh now = !p.becameStale)) ∧
  (∀ (t : Nat) (a : Address) (s : State), s.startup = .ready →
    let now := (s.takenAt t).now
    exec (.entryBecomesStale t a) s = .next { s with
      clock := max s.clock t
      peers := s.peers.map fun p =>
        if p.address = a ∧ 300 * p.period ≤ (now - p.lastHeard).toNat then { p with becameStale := true } else p } ∧
    ∀ u, exec (.entryBecomesStale t a) s = .next u → ∀ p ∈ u.peers, p.address = a →
      300 * p.period ≤ (now - p.lastHeard).toNat → p.isFresh now = false) ∧
  (∀ (t : Nat) (a : Address) (s : State), s.startup = .ready →
    ∃ u, exec (.entryRemovedByAge t a) s = .next u ∧
      (∀ q, q ∈ u.peers ↔ q ∈ s.peers ∧ ¬ (q.address = a ∧ 1000 * q.period ≤ q.age u.now)) ∧
      List.Sublist u.peers s.peers ∧ u = { s with clock := max s.clock t, peers := u.peers }) ∧
  ∀ (t d : Nat) (s : State), s.startup = .ready → s.share.overflowTimer = some d →
    (d ≤ max s.clock t → exec (.overflowTimerExpiry t) s =
      .next { s with clock := max s.clock t, share := { s.share with overflowTimer := none } }) ∧
    (max s.clock t < d → exec (.overflowTimerExpiry t) s = .next { s with clock := max s.clock t })

/-! ### The hold list -/

/-- SHED_RECEIVED on a truck, hold time above 0 (R79, R82): the first case that applies, the list kept in order of
expiry less now and then of origin; the onset of a hold raises HOLD_START and caps the limit at the floor, and no other case does.
Every expiry in the list is at most 5000 ms ahead, as every SHED's is. -/
def Obligations.ShedPlacesItsHold : Prop :=
  ∀ (t : Nat) (o : Address) (p : ShedPayload) (starts : Vector Nat 10) (s : State), s.startup = .ready →
    s.hearsWhole t starts.toList = true → s.isTruck = true → validAddress o → o ≠ s.config.address → p.holdTime ≠ 0 →
    holdForm s.holds →
    let a := s.takenAt t
    let left (h : Hold) : Nat := (h.expiry - a.now).toNat
    let sooner (x y : Hold) : Prop := left x < left y ∨ left x = left y ∧ x.origin.toNat < y.origin.toNat
    let units := min 500 p.holdTime.toNat
    let hold : Hold := ⟨o, a.now + BitVec.ofNat 48 (10 * units), p.reason⟩
    (∀ h ∈ s.holds, left h ≤ 5000) →
    ∃ u, exec (.shedReceived t o p ⟨Frame.crc ⟨o, .shed p⟩, starts⟩) s = .next u ∧ holdForm u.holds ∧
      (∀ h ∈ u.holds, left h ≤ 5000) ∧ (s.holds.Pairwise sooner → u.holds.Pairwise sooner) ∧
      ((∃ q ∈ s.holds, q.origin = o) →
        ∀ q, q ∈ u.holds ↔ q = hold ∨ q ∈ s.holds ∧ q.origin ≠ o) ∧
      ((∀ q ∈ s.holds, q.origin ≠ o) → s.holds.length < 4 → ∀ q, q ∈ u.holds ↔ q = hold ∨ q ∈ s.holds) ∧
      (∀ first rest, (∀ q ∈ s.holds, q.origin ≠ o) → s.holds = first :: rest → rest.length = 3 →
        (left first < 10 * units → ∀ q, q ∈ u.holds ↔ q = hold ∨ q ∈ rest) ∧
        (10 * units ≤ left first → u.holds = s.holds)) ∧
      (s.holds = [] → u.port = s.port.raise .holdStart ∧ u.lim = (a.immediateCap s.config.floor).lim) ∧
      (s.holds ≠ [] → u.port = s.port ∧ u.lim = s.lim) ∧
      u = { s with clock := a.clock, holds := u.holds, lim := u.lim, port := u.port, link := s.link.heard starts.toList }

/-- SHED_RECEIVED as a release (R80), SHED_RECEIVED on a feeder (R78) and HOLD_EXPIRY (R81): no event and no cap. -/
def Obligations.HoldsEndByReleaseOrExpiry : Prop :=
  (∀ (t : Nat) (o : Address) (p : ShedPayload) (starts : Vector Nat 10) (s : State), s.startup = .ready →
    s.hearsWhole t starts.toList = true → validAddress o → o ≠ s.config.address →
    let link := s.link.heard starts.toList
    (s.isTruck = true → p.holdTime = 0 →
      exec (.shedReceived t o p ⟨Frame.crc ⟨o, .shed p⟩, starts⟩) s =
        .next { s with clock := max s.clock t, link := link, holds := s.holds.filter fun q => q.origin != o }) ∧
    (s.isTruck = false →
      exec (.shedReceived t o p ⟨Frame.crc ⟨o, .shed p⟩, starts⟩) s = .next { s with clock := max s.clock t, link := link })) ∧
  ∀ (t : Nat) (h : Hold) (rest : List Hold) (s : State), s.startup = .ready → s.holds = h :: rest →
    let now := (s.takenAt t).now
    (now = h.expiry →
      exec (.holdExpiry t) s = .next { s with clock := max s.clock t, holds := rest }) ∧
    (1 ≤ (h.expiry - now).toNat → (h.expiry - now).toNat ≤ 5000 →
      exec (.holdExpiry t) s = .next { s with clock := max s.clock t })

/-- R77, R79: a SHED taken into a list in order of expiry, of equal expiries the lower origin first, leaves it in that order: written out
over the expiries less now, each at most 5000 ms ahead. -/
def Obligations.HoldListKeepsItsOrder : Prop :=
  ∀ (now : Reading) (o : Address) (units : Nat) (reason : Byte) (holds : List Hold), 1 ≤ units → units ≤ 500 →
    let left (h : Hold) : Nat := (h.expiry - now).toNat
    let sooner (a b : Hold) : Prop := left a < left b ∨ left a = left b ∧ a.origin.toNat < b.origin.toNat
    holdForm holds → (∀ h ∈ holds, left h ≤ 5000) → holds.Pairwise sooner →
    (takenHolds now o units reason holds).Pairwise sooner ∧ ∀ h ∈ takenHolds now o units reason holds, left h ≤ 5000

/-! ### Phases and crossings -/

/-- CONTACT_QUALIFICATION_EXPIRY and LISTEN_TIMER_EXPIRY (R47, R48, R125, R127): contact is made, the hold duty starts in the hold
band, a truck OFFLINE listens; the listen time over, it is ACTIVE, with the limit as it was. -/
def Obligations.ContactLeadsThroughListenToActive : Prop :=
  (∀ (t d : Nat) (s : State), s.startup = .ready → s.panto.state = .raising → s.panto.qualTimer = some d → d ≤ max s.clock t →
    ∃ u, exec (.contactQualificationExpiry t) s = .next u ∧
      u.panto = { s.panto with
        state := .contact
        holdDuty := min s.config.holdMax (max s.config.holdMin s.config.holdStart)
        raiseTimer := none, qualTimer := none, lossTimer := none, imbalanceTimer := none, unloadTimer := none
        lowerTimer := none } ∧
      u.port = s.port.raise .contactMade ∧
      (s.isTruck = true → s.share.phase = .offline → u.share = { s.share with
        phase := .listen, listenTimer := some (max s.clock t + 1000 * s.config.listenTime) }) ∧
      (s.isTruck = false → u.share = s.share) ∧
      u = { s with clock := max s.clock t, panto := u.panto, port := u.port, share := u.share }) ∧
  ∀ (t d : Nat) (s : State), s.startup = .ready → s.share.phase = .listen → s.share.listenTimer = some d →
    (d ≤ max s.clock t → exec (.listenTimerExpiry t) s =
      .next { s with clock := max s.clock t, share := { s.share with phase := .active, listenTimer := none } }) ∧
    (max s.clock t < d → exec (.listenTimerExpiry t) s = .next { s with clock := max s.clock t })

/-- SECT_AHEAD_FALL and SECTION_AHEAD (R90 to R92): in ACTIVE the limit is 0 at once, the periodic slot empty, a frame on the line sent
whole, a DEPART queued unless SILENT, and the crossing begun in DRAIN; in every other phase, and on a feeder, the request is ignored. The command answers OK either
way. -/
def Obligations.CrossingRequestActsInActiveAlone : Prop :=
  ∀ (t : Nat) (i : Instr) (s : State), s.startup = .ready → (i = .sectAheadFall t ∨ i = .sectionAhead t) →
    ∃ u, exec i s = .next u ∧
      (i = .sectAheadFall t → u.port = s.port) ∧ (i = .sectionAhead t → u.port = { s.port with response := [0x00] }) ∧
      (s.isTruck = true → s.share.phase = .active →
        u.share = { s.share with
          phase := .crossing
          crossSub := .drain
          crossTimer := some (max s.clock t + 1000 * s.config.crossingTimeout)
          collapseTimer := none } ∧
        u.lim = ((s.takenAt t).immediateCap 0).lim ∧ u.lim.limit = 0 ∧
        u.link.periodic = none ∧ u.link.shed = s.link.shed ∧
        (∀ f since, s.link.transmitter = .sending f since → u.link.transmitter = .sending f since) ∧
        (s.mode ≠ .silent → ∃ q, u.link.depart = some q ∧ q.frame = ⟨s.config.address, .depart⟩ ∧
          q.attempts = (s.link.depart.map (·.attempts)).getD 0) ∧
        (s.mode = .silent → u.link.depart = s.link.depart)) ∧
      (s.isTruck = false ∨ s.share.phase ≠ .active → u.share = s.share ∧ u.lim = s.lim ∧ u.link = s.link) ∧
      u = { s with clock := max s.clock t, share := u.share, lim := u.lim, link := u.link, port := u.port }

/-- CROSSING_TIMER_EXPIRY (R97): CROSS_TIMEOUT, no sub-state, LISTEN with its timer; the table, the holds and the overflow condition
are kept. -/
def Obligations.CrossingTimesOutToListen : Prop :=
  ∀ (t d : Nat) (s : State), s.startup = .ready → s.share.phase = .crossing → s.share.crossTimer = some d →
    (d ≤ max s.clock t → exec (.crossingTimerExpiry t) s = .next { s with
      clock := max s.clock t
      share := { s.share with
        phase := .listen
        crossSub := .none
        crossTimer := none
        listenTimer := some (max s.clock t + 1000 * s.config.listenTime) }
      port := s.port.raise .crossTimeout }) ∧
    (max s.clock t < d → exec (.crossingTimerExpiry t) s = .next { s with clock := max s.clock t })

/-- SWEEP_COMPLETE in CROSSING (R86, R93 to R96): the set moves the sub-state by at most one step, on the present sub-state's
condition alone; a valid voltage at or above V_min in DEAD completes the crossing. `n` is the state with the set published. -/
def Obligations.SetsCarryTheCrossingForward : Prop :=
  ∀ (t since : Nat) (samples : Vector Code 18) (s : State), s.startup = .ready → s.isTruck = true →
    s.share.phase = .crossing → s.panto.state = .contact → s.sweeper.conversion = .sweep since →
    since + 360 ≤ max s.clock t →
    let n : State := { s.takenAt t with
      sweeper := (s.sweeper.publish (s.sweeper.sweepSamples samples)).finishSweep (max s.clock t) }
    let dead := n.validChannel 1 = true ∧ n.code 1 < s.config.vDead
    let live := n.validChannel 1 = true ∧ s.config.vMin ≤ n.code 1
    let drained := (n.validChannel 0 = true ∧ n.code 0 ≤ s.config.releaseCurrent) ∨ (s.openChannel 0 = true ∧ dead)
    ∃ u, exec (.sweepComplete t samples) s = .next u ∧ u.sweeper = n.sweeper ∧ u.lim = s.lim ∧
      (live → u.share.episode = false) ∧
      (s.share.crossSub = .dead → live →
        u.peers = [] ∧ u.holds = [] ∧ u.port = s.port.raise .crossDone ∧
        u.share = { s.share with
          phase := .listen, crossSub := .none, crossTimer := none, overflowTimer := none
          listenTimer := some (max s.clock t + 1000 * s.config.listenTime)
          collapseTimer := u.share.collapseTimer, episode := false }) ∧
      (¬ (s.share.crossSub = .dead ∧ live) →
        u.share = { s.share with
          crossSub := u.share.crossSub, collapseTimer := u.share.collapseTimer, episode := u.share.episode } ∧
        (s.share.crossSub = .drain → drained → u.share.crossSub = .gap) ∧
        (s.share.crossSub = .drain → ¬ drained → u.share.crossSub = .drain) ∧
        (s.share.crossSub = .gap → dead → u.share.crossSub = .dead) ∧
        (s.share.crossSub = .gap → ¬ dead → u.share.crossSub = .gap) ∧
        (s.share.crossSub = .dead → u.share.crossSub = .dead) ∧
        u.peers = s.peers ∧ u.holds = s.holds ∧ u.port = s.port) ∧
      u = { s with
        clock := max s.clock t, share := u.share, peers := u.peers, holds := u.holds, port := u.port, panto := u.panto
        sweeper := u.sweeper }

/-- R84 and R86 on a published set of a truck: the collapse timer is started at 20 ms, left running or stopped, and a valid voltage at
or above V_min ends the episode. -/
def Obligations.SetsDriveTheCollapseTimer : Prop :=
  ∀ s : State, s.isTruck = true → s.share.phase ≠ .crossing →
    (s.validChannel 1 = true → s.code 1 < s.config.vCollapse →
      (s.share.collapseTimer ≠ none → s.setInShareEngine.share.collapseTimer = s.share.collapseTimer) ∧
      (s.share.collapseTimer = none → s.share.phase = .active → s.mode ≠ .silent → s.share.episode = false →
        s.setInShareEngine.share.collapseTimer = some (s.clock + 20000)) ∧
      (s.share.collapseTimer = none → (s.share.phase ≠ .active ∨ s.mode = .silent ∨ s.share.episode = true) →
        s.setInShareEngine.share.collapseTimer = none)) ∧
    ((s.validChannel 1 = false ∨ s.config.vCollapse ≤ s.code 1) → s.setInShareEngine.share.collapseTimer = none) ∧
    (s.validChannel 1 = true ∧ s.config.vMin ≤ s.code 1 → s.setInShareEngine.share.episode = false) ∧
    (¬ (s.validChannel 1 = true ∧ s.config.vMin ≤ s.code 1) →
      s.setInShareEngine.share.episode = s.share.episode) ∧
    s.setInShareEngine = { s with share := { s.share with
      collapseTimer := s.setInShareEngine.share.collapseTimer, episode := s.setInShareEngine.share.episode } }

/-- COLLAPSE_TIMER_EXPIRY (R82, R85): the own SHED queued, the own hold taken by R79, SHED_SENT raised, the episode flag set; into an
empty list the own hold is an onset. It is so too while channel 1 is OPEN, where the model lets the timer run on to the next set, by the table
of R84 against its prose (the model's choice: notes/assumptions/27.md). -/
def Obligations.CollapseCallsTheOwnShed : Prop :=
  ∀ (t d : Nat) (s : State), s.startup = .ready → s.isTruck = true → s.share.collapseTimer = some d → d ≤ max s.clock t →
    s.link.txEnable = true → s.config.address ≠ 0 → 100 ≤ s.config.collapseHold → s.config.collapseHold ≤ 5000 →
    let units := s.config.collapseHold / 10
    let now := (s.takenAt t).now
    ∃ u, exec (.collapseTimerExpiry t) s = .next u ∧
      u.share = { s.share with collapseTimer := none, episode := true } ∧
      (∃ q, u.link.shed = some q ∧ q.frame = ⟨s.config.address, .shed ⟨2, BitVec.ofNat 16 units⟩⟩ ∧
        q.attempts = (s.link.shed.map (·.attempts)).getD 0) ∧
      u.link.depart = s.link.depart ∧ u.link.periodic = s.link.periodic ∧
      u.holds = takenHolds now s.config.address units 2 s.holds ∧
      (s.holds = [] → u.holds = [⟨s.config.address, now + BitVec.ofNat 48 (10 * units), 2⟩] ∧
        u.port = (s.port.raise .holdStart).raise .shedSent ∧
        u.lim = ((s.takenAt t).immediateCap s.config.floor).lim) ∧
      (s.holds ≠ [] → u.port = s.port.raise .shedSent ∧ u.lim = s.lim) ∧
      u = { s with
        clock := max s.clock t, share := u.share, holds := u.holds, link := u.link, lim := u.lim, port := u.port }

/-! ### The pantograph -/

/-- LOWER and EMLOWER_N_FALL in CONTACT (R49, R50, R99, R124, R132): the phase is OFFLINE, every crossing and listening ended, the
limit 0 at once, the periodic slot empty, and a DEPART queued from ACTIVE unless SILENT. -/
def Obligations.TakingThePantographDownEndsSharing : Prop :=
  ∀ (t : Nat) (i : Instr) (s : State), s.startup = .ready → s.isTruck = true → s.panto.state = .contact →
    (i = .lower t ∨ i = .emlowerNFall t) →
    ∃ u, exec i s = .next u ∧
      (i = .lower t → u.panto = { s.panto.enter .unloading with
          lossTimer := s.panto.lossTimer, unloadTimer := some (max s.clock t + 1000 * s.config.unloadTimeout) } ∧
        u.port = { s.port with response := [0x00] }) ∧
      (i = .emlowerNFall t → u.panto = { s.panto.enter .lowering with
          lowerTimer := some (max s.clock t + 1000 * s.config.lowerTimeout) } ∧
        u.port = s.port.raise .emergencyLower) ∧
      u.share = { s.share with
        phase := .offline, listenTimer := none, crossSub := .none, crossTimer := none, collapseTimer := none } ∧
      u.lim = ((s.takenAt t).immediateCap 0).lim ∧ u.lim.limit = 0 ∧
      u.link.periodic = none ∧ u.link.shed = s.link.shed ∧
      (s.share.phase = .active → s.mode ≠ .silent → ∃ q, u.link.depart = some q ∧
        q.frame = ⟨s.config.address, .depart⟩ ∧ q.attempts = (s.link.depart.map (·.attempts)).getD 0) ∧
      (s.share.phase ≠ .active ∨ s.mode = .silent → u.link.depart = s.link.depart) ∧
      u = { s with
        clock := max s.clock t, panto := u.panto, port := u.port, share := u.share, lim := u.lim, link := u.link }

/-- RAISE, LOWER and CLEAR_FAULT by state (R120, R123, R124, R134, R135): the status and the state after; a state is entered with
every timer of the state left stopped. LOWER in CONTACT is `TakingThePantographDownEndsSharing`. The arc records pending as CLEAR_FAULT
leads to LOWERED enter the log as they stand, the oldest first and 16 at most, and the storm count is taken once (R159); that with none
pending no count is taken is the model's reading of R159 and R160 (notes/assumptions/11.md), and that CLEAR_FAULT reads the published position
also where none was valid since power-on is its choice (35.md). -/
def Obligations.PantographCommandsAreTakenByState : Prop :=
  (∀ (p : Pantograph) (st : PantoState), p.enter st = { p with
    state := st, raiseTimer := none, qualTimer := none, lossTimer := none, imbalanceTimer := none, unloadTimer := none
    lowerTimer := none }) ∧
  ∀ (t : Nat) (em : Bool) (s : State), s.startup = .ready →
    let answers (i : Instr) (code : Byte) (p : Pantograph) : Prop :=
      exec i s = .next { s with clock := max s.clock t, panto := p, port := { s.port with response := [code] } }
    (s.isTruck = false → answers (.raise t em) 0x07 s.panto ∧ answers (.lower t) 0x07 s.panto ∧
      answers (.clearFault t) 0x07 s.panto) ∧
    (s.isTruck = true →
      (s.panto.state = .lowered → s.openChannel 2 = false → s.openChannel 3 = false → s.openChannel 4 = false → em = false →
        answers (.raise t em) 0x00 { s.panto.enter .raising with
          raiseTimer := some (max s.clock t + 1000 * s.config.raiseTimeout) }) ∧
      (s.panto.state = .lowered →
        (s.openChannel 2 = true ∨ s.openChannel 3 = true ∨ s.openChannel 4 = true ∨ em = true) →
        answers (.raise t em) 0x06 s.panto) ∧
      (s.panto.state = .raising ∨ s.panto.state = .contact → answers (.raise t em) 0x00 s.panto) ∧
      (s.panto.state = .unloading ∨ s.panto.state = .lowering → answers (.raise t em) 0x04 s.panto) ∧
      (s.panto.state = .faulted → answers (.raise t em) 0x05 s.panto ∧ answers (.lower t) 0x05 s.panto) ∧
      (s.panto.state = .raising → answers (.lower t) 0x00 { s.panto.enter .lowering with
        lowerTimer := some (max s.clock t + 1000 * s.config.lowerTimeout) }) ∧
      (s.panto.state = .unloading ∨ s.panto.state = .lowering ∨ s.panto.state = .lowered →
        answers (.lower t) 0x00 s.panto) ∧
      (s.panto.state = .faulted → s.openChannel 4 = true → answers (.clearFault t) 0x06 s.panto) ∧
      (s.panto.state = .faulted → s.openChannel 4 = false → s.code 4 ≤ s.config.loweredThreshold →
        (s.arc.pending = [] → answers (.clearFault t) 0x00 (s.panto.enter .lowered)) ∧
        (s.arc.pending ≠ [] → exec (.clearFault t) s = .next (State.takeStormCount { s with
          clock := max s.clock t
          panto := s.panto.enter .lowered
          port := { s.port with response := [0x00] }
          arc := { s.arc with
            pending := []
            log := s.arc.pending.foldl (fun log r => (if log.length < 16 then log else log.tail) ++ [r]) s.arc.log } }))) ∧
      (s.panto.state = .faulted → s.openChannel 4 = false → s.config.loweredThreshold < s.code 4 →
        answers (.clearFault t) 0x00 { s.panto.enter .lowering with
          lowerTimer := some (max s.clock t + 1000 * s.config.lowerTimeout) }) ∧
      (s.panto.state ≠ .faulted → answers (.clearFault t) 0x00 s.panto))

/-- RAISE_TIMER_EXPIRY, UNLOAD_TIMER_EXPIRY, LOWER_TIMER_EXPIRY, IMBALANCE_TIMER_EXPIRY, and EMLOWER_N_FALL outside CONTACT (R126,
R129 to R132). -/
def Obligations.PantographTimersAndEmergencyLower : Prop :=
  ∀ (t d : Nat) (s : State), s.startup = .ready → d ≤ max s.clock t →
    let lowering := { s.panto.enter .lowering with lowerTimer := some (max s.clock t + 1000 * s.config.lowerTimeout) }
    let goes (i : Instr) (p : Pantograph) (q : TruckPort) : Prop :=
      exec i s = .next { s with clock := max s.clock t, panto := p, port := q }
    (s.panto.state = .raising → s.panto.raiseTimer = some d → goes (.raiseTimerExpiry t) lowering (s.port.raise .noWire)) ∧
    (s.panto.state = .unloading → s.panto.unloadTimer = some d →
      goes (.unloadTimerExpiry t) lowering (s.port.raise .unloadTimeout)) ∧
    (s.panto.state = .lowering → s.panto.lowerTimer = some d →
      goes (.lowerTimerExpiry t) (s.panto.enter .faulted) (s.port.raise .actuatorFault)) ∧
    (s.panto.state = .contact → s.panto.imbalanceTimer = some d →
      goes (.imbalanceTimerExpiry t) { s.panto with imbalanceTimer := none, imbalanceEpisode := true }
        (if s.panto.imbalanceEpisode then s.port else s.port.raise .headImbalance)) ∧
    (s.isTruck = true → s.panto.state = .raising ∨ s.panto.state = .unloading →
      goes (.emlowerNFall t) lowering (s.port.raise .emergencyLower)) ∧
    (s.isTruck = false ∨ s.panto.state = .lowering ∨ s.panto.state = .lowered ∨ s.panto.state = .faulted →
      goes (.emlowerNFall t) s.panto s.port)

/-- LOSS_TIMER_EXPIRY (R49, R50, R128, R130): a contact loss in CONTACT is tried again from RAISING, the third within 10,000 ms takes
the pantograph down with a DEPART from ACTIVE unless SILENT; in UNLOADING it ends the unloading, and with
channel 2 or 3 OPEN no loss is counted there (R133); that a timer which ran on is stopped by its expiry and by nothing before is the
model's reading (notes/assumptions/33.md). -/
def Obligations.ContactLossesAreCounted : Prop :=
  ∀ (t d : Nat) (s : State), s.startup = .ready → s.isTruck = true → s.panto.lossTimer = some d → d ≤ max s.clock t →
    let now := (s.takenAt t).now
    let history := if s.panto.history.length < 3 then s.panto.history ++ [now] else s.panto.history.tail ++ [now]
    let offline := { s.share with
      phase := .offline, listenTimer := none, crossSub := .none, crossTimer := none, collapseTimer := none }
    (s.panto.state = .contact → s.panto.history.length ≤ 3 →
      ∃ u, exec (.lossTimerExpiry t) s = .next u ∧
        ((∀ x ∈ history.head?, history.length = 3 → 10000 ≤ (now - x).toNat) →
          u.panto = { s.panto.enter .raising with
            raiseTimer := some (max s.clock t + 1000 * s.config.raiseTimeout), history := history } ∧
          u.port = s.port.raise .contactLost ∧ u.link.depart = s.link.depart) ∧
        (∀ x ∈ history.head?, history.length = 3 → (now - x).toNat < 10000 →
          u.panto = { s.panto.enter .unloading with
            unloadTimer := some (max s.clock t + 1000 * s.config.unloadTimeout), history := [] } ∧
          u.port = (s.port.raise .contactLost).raise .repeatedLoss ∧
          (s.share.phase = .active → s.mode ≠ .silent →
            ∃ q, u.link.depart = some q ∧ q.frame = ⟨s.config.address, .depart⟩) ∧
          (s.share.phase ≠ .active ∨ s.mode = .silent → u.link.depart = s.link.depart)) ∧
        u.share = offline ∧ u.lim = ((s.takenAt t).immediateCap 0).lim ∧ u.link.periodic = none ∧ u.link.shed = s.link.shed ∧
        u = { s with
          clock := max s.clock t, panto := u.panto, port := u.port, share := u.share, lim := u.lim, link := u.link }) ∧
    (s.panto.state = .unloading → s.openChannel 2 = true ∨ s.openChannel 3 = true →
      exec (.lossTimerExpiry t) s = .next { s with
        clock := max s.clock t, panto := { s.panto with lossTimer := none } }) ∧
    (s.panto.state = .unloading → s.openChannel 2 = false → s.openChannel 3 = false →
      exec (.lossTimerExpiry t) s = .next { s with
        clock := max s.clock t
        panto := { s.panto.enter .lowering with lowerTimer := some (max s.clock t + 1000 * s.config.lowerTimeout) }
        port := s.port.raise .contactLost })

/-- R122, R125 to R131 and R159, a published set taken by a truck's Pantograph Controller, state by state: the qualification timers on counted
readings, the hold duty in its band, the end of a raise at the top stop, of an unloading at the release current and of a lowering at
the lowered threshold, and the end of an imbalance episode in any state. On entry to LOWERED the pending arc records enter the log as
they stand, the oldest first and 16 at most, and the storm count is taken once; that with none pending no count is taken is the model's
reading of R159 and R160 (notes/assumptions/11.md). -/
def Obligations.SetsDriveThePantograph : Prop :=
  ∀ s : State,
    let counted : Bool := s.validChannel 2 && s.validChannel 3
    let force := s.code 2 / 4 + s.code 3 / 4
    let difference := max (s.code 2 / 4) (s.code 3 / 4) - min (s.code 2 / 4) (s.code 3 / 4)
    let band (d : Nat) := min s.config.holdMax (max s.config.holdMin d)
    let duty :=
      if counted && decide (force < s.config.windowLow) then band (s.panto.holdDuty + s.config.holdStep)
      else if counted && decide (s.config.windowHigh < force) then band (s.panto.holdDuty - s.config.holdStep)
      else s.panto.holdDuty
    let watch (timer : Option Nat) (met : Bool) (ms : Nat) : Option Nat :=
      if counted then (if met then some (timer.getD (s.clock + 1000 * ms)) else none) else timer
    let loss := watch s.panto.lossTimer (force < s.config.lossThreshold) (10 * s.config.lossTime)
    let p := { s.panto with
      imbalanceEpisode := s.panto.imbalanceEpisode && !(counted && decide (difference ≤ s.config.imbalanceLimit)) }
    let lowering (p : Pantograph) : Pantograph :=
      { p.enter .lowering with lowerTimer := some (s.clock + 1000 * s.config.lowerTimeout) }
    (s.panto.state = .raising → s.validChannel 4 = true → s.config.topStop ≤ s.code 4 →
      s.setInPantograph = { s with panto := lowering p, port := s.port.raise .noWire }) ∧
    (s.panto.state = .raising → ¬ (s.validChannel 4 = true ∧ s.config.topStop ≤ s.code 4) →
      s.setInPantograph = { s with panto := { p with
        qualTimer := watch s.panto.qualTimer (s.config.contactThreshold ≤ force) 100 } }) ∧
    (s.panto.state = .contact → s.setInPantograph = { s with panto := { p with
      holdDuty := duty
      lossTimer := loss
      imbalanceTimer :=
        if decide (s.config.imbalanceLimit < difference) && s.panto.imbalanceEpisode then s.panto.imbalanceTimer
        else watch s.panto.imbalanceTimer (s.config.imbalanceLimit < difference) 1000 } }) ∧
    (s.panto.state = .unloading → s.validChannel 0 = true → s.code 0 ≤ s.config.releaseCurrent →
      s.setInPantograph = { s with panto := { lowering p with holdDuty := duty } }) ∧
    (s.panto.state = .unloading → ¬ (s.validChannel 0 = true ∧ s.code 0 ≤ s.config.releaseCurrent) →
      s.setInPantograph = { s with panto := { p with holdDuty := duty, lossTimer := loss } }) ∧
    (s.panto.state = .lowering → s.validChannel 4 = true → s.code 4 ≤ s.config.loweredThreshold →
      (s.arc.pending = [] → s.setInPantograph = { s with panto := p.enter .lowered }) ∧
      (s.arc.pending ≠ [] → s.setInPantograph = State.takeStormCount { s with
        panto := p.enter .lowered
        arc := { s.arc with
          pending := []
          log := s.arc.pending.foldl (fun log r => (if log.length < 16 then log else log.tail) ++ [r]) s.arc.log } })) ∧
    (s.panto.state = .lowering → ¬ (s.validChannel 4 = true ∧ s.code 4 ≤ s.config.loweredThreshold) →
      s.setInPantograph = { s with panto := p }) ∧
    (s.panto.state = .lowered ∨ s.panto.state = .faulted → s.setInPantograph = { s with panto := p })

/-- ACTUATOR_PERIOD_BOUNDARY and ACTUATOR_PULSE_END (R120, R121, R135): the drive of the state is taken at the boundary, a feeder's
stays low; ACT_PWM falls when the counter, 256 steps to 50 µs, reaches the duty. -/
def Obligations.ActuatorTakesTheDriveOfTheState : Prop :=
  ∀ (t : Nat) (s : State), s.startup = .ready →
    (s.panto.nextBoundary ≤ max s.clock t → ∃ u, exec (.actuatorPeriodBoundary t) s = .next u ∧
      (s.isTruck = true → u.panto.dutyInForce = (match s.panto.state with
          | .lowered => 0
          | .raising => s.config.raiseDuty
          | .contact => s.panto.holdDuty
          | .unloading => s.panto.holdDuty
          | .lowering => s.config.lowerDuty
          | .faulted => 0) ∧
        (u.panto.actDirOut = true ↔ s.panto.state = .raising ∨ s.panto.state = .contact ∨ s.panto.state = .unloading)) ∧
      (s.isTruck = false → u.panto.dutyInForce = 0 ∧ u.panto.actDirOut = false) ∧
      (u.panto.actPwmOut = true ↔ 0 < u.panto.dutyInForce) ∧
      u.panto.nextBoundary % 50 = 0 ∧ max s.clock t < u.panto.nextBoundary ∧ u.panto.nextBoundary ≤ max s.clock t + 50 ∧
      u = { s with clock := max s.clock t, panto := { s.panto with
        dutyInForce := u.panto.dutyInForce, actDirOut := u.panto.actDirOut, actPwmOut := u.panto.actPwmOut
        nextBoundary := u.panto.nextBoundary } }) ∧
    (s.panto.actPwmOut = true →
      (s.panto.dutyInForce * 50 ≤ 256 * (max s.clock t + 50 - s.panto.nextBoundary) → exec (.actuatorPulseEnd t) s =
        .next { s with clock := max s.clock t, panto := { s.panto with actPwmOut := false } }) ∧
      (256 * (max s.clock t + 50 - s.panto.nextBoundary) < s.panto.dutyInForce * 50 → exec (.actuatorPulseEnd t) s =
        .next { s with clock := max s.clock t }))

/-! ### The Sweeper and the Arc Monitor -/

/-- SWEEP_COMPLETE (R140 to R142, R145, R147): each good channel takes its mean or its sample, the samples taken for a measurement
pair of this sweep among them; each OPEN one keeps its code, the valid flags are the OPEN flags' opposites; the sweep is counted, the 64th makes a test fall due, the abort count is 0 and the next sweep or the
pending test begins. That a pair's samples come with the pair's own commands, and are not read from this one, is the model's choice
(notes/assumptions/20.md). The set is then taken by a truck's Share Engine and Pantograph Controller, or by a feeder's logic. -/
def Obligations.SweepPublishesAWholeSet : Prop :=
  ∀ (t since : Nat) (samples : Vector Code 18) (s : State), s.startup = .ready → s.sweeper.conversion = .sweep since →
    since + 360 ≤ max s.clock t → s.sweeper.sweepCounter < 64 →
    let sample (k : Nat) : Nat := ((s.sweeper.pairSamples.toList.getD k none).getD (samples.toList.getD k 0)).toNat
    let due := s.sweeper.testPending = true ∨ s.sweeper.sweepCounter = 63
    ∃ u, exec (.sweepComplete t samples) s = .next u ∧ u.clock = max s.clock t ∧
      u.sweeper.published.valid = ~~~ s.sweeper.openFlags ∧
      (∀ n, n < 8 → s.openChannel n = true → u.code n = s.code n) ∧
      (s.openChannel 0 = false →
        u.code 0 = (sample 0 + sample 3 + sample 6 + sample 9 + sample 12 + sample 15) / 6) ∧
      (s.openChannel 1 = false →
        u.code 1 = (sample 1 + sample 4 + sample 7 + sample 10 + sample 13 + sample 16) / 6) ∧
      (∀ n, 2 ≤ n → n < 8 → s.openChannel n = false → u.code n = sample (3 * n - 4)) ∧
      u.sweeper.sweepCounter = (if s.sweeper.sweepCounter = 63 then 0 else s.sweeper.sweepCounter + 1) ∧
      (u.sweeper.testPending = true ↔ due) ∧
      (due → u.sweeper.conversion = .test (max s.clock t)) ∧ (¬ due → u.sweeper.conversion = .sweep (max s.clock t)) ∧
      u.sweeper = { s.sweeper with
        published := u.sweeper.published, sweepCounter := u.sweeper.sweepCounter, testPending := u.sweeper.testPending
        abortCount := 0, conversion := u.sweeper.conversion, pairSamples := Vector.replicate 18 none } ∧
      (∀ n : State, n = { s.takenAt t with sweeper := u.sweeper } →
        (s.isTruck = true → u = n.setInShareEngine.setInPantograph) ∧ (s.isTruck = false → u = n.setInFeeder)) ∧
      (s.isTruck = true → u = { s with
        clock := max s.clock t, sweeper := u.sweeper, share := u.share, peers := u.peers, holds := u.holds, panto := u.panto
        arc := u.arc, port := u.port, lim := u.lim }) ∧
      (s.isTruck = false → u = { s with
        clock := max s.clock t, sweeper := u.sweeper, feeder := u.feeder, link := u.link, port := u.port })

/-- OPEN_WIRE_TEST_COMPLETE (R56, R133, R142 to R144, R169): the tested channel's flag takes the result, the rotation advances and a
sweep begins; a flag becoming set raises SENSOR_OPEN on a truck, and on a feeder for channels 0 and 1, caps the limit at the floor where
it begins DEGRADED, takes the pantograph down where it sets the sensor fault, and turns a feeder's overload detection off. The
model's choices in it: a collapse timer runs on as channel 1 becomes OPEN, to the next set (notes/assumptions/27.md), and a loss timer
runs on in UNLOADING as channel 2 or 3 does, to an expiry that counts no loss (33.md). -/
def Obligations.OpenWireTestSetsItsChannelsFlag : Prop :=
  ∀ (t since : Nat) (test : WireTest) (s : State), s.startup = .ready → s.sweeper.conversion = .test since →
    since + 40 ≤ max s.clock t →
    let n := s.sweeper.rotation.val
    let found := 4000 ≤ test.pullUp.toNat ∧ test.pullDown.toNat ≤ 95
    let opened := found ∧ s.openChannel n = false
    ∃ u, exec (.openWireTestComplete t test) s = .next u ∧ u.clock = max s.clock t ∧
      (u.openChannel n = true ↔ found) ∧ (∀ k, k < 8 → k ≠ n → u.openChannel k = s.openChannel k) ∧
      u.sweeper.rotation.val = (n + 1) % 8 ∧
      u.sweeper = { s.sweeper with
        openFlags := u.sweeper.openFlags, rotation := u.sweeper.rotation, testPending := false
        conversion := .sweep (max s.clock t), pairSamples := Vector.replicate 18 none } ∧
      (¬ opened → u = { s with clock := max s.clock t, sweeper := u.sweeper }) ∧
      (opened → (s.isTruck = true ∨ n ≤ 1) → u.port = s.port.raise .sensorOpen) ∧
      (opened → s.isTruck = true → n ≤ 1 →
        (s.degradedStands = false → u.lim = ((s.takenAt t).immediateCap s.config.floor).lim) ∧
        (s.degradedStands = true → u.lim = s.lim) ∧
        u = { s with clock := max s.clock t, sweeper := u.sweeper, port := u.port, lim := u.lim }) ∧
      (opened → s.isTruck = true → 2 ≤ n → n ≤ 4 → s.sensorFault = false →
        (s.panto.state = .contact → u.panto = { s.panto.enter .unloading with
            unloadTimer := some (max s.clock t + 1000 * s.config.unloadTimeout) } ∧
          u.share = { s.share with
            phase := .offline, listenTimer := none, crossSub := .none, crossTimer := none, collapseTimer := none } ∧
          u.lim = ((s.takenAt t).immediateCap 0).lim ∧ u.link.periodic = none ∧ u.link.shed = s.link.shed ∧
          (s.share.phase = .active → s.mode ≠ .silent →
            ∃ q, u.link.depart = some q ∧ q.frame = ⟨s.config.address, .depart⟩) ∧
          (s.share.phase ≠ .active ∨ s.mode = .silent → u.link.depart = s.link.depart)) ∧
        (s.panto.state = .raising → u.panto = { s.panto.enter .lowering with
            lowerTimer := some (max s.clock t + 1000 * s.config.lowerTimeout) }) ∧
        (s.panto.state ≠ .contact → s.panto.state ≠ .raising → u.panto = s.panto) ∧
        (s.panto.state ≠ .contact → u.share = s.share ∧ u.lim = s.lim ∧ u.link = s.link) ∧
        u = { s with
          clock := max s.clock t, sweeper := u.sweeper, port := u.port, panto := u.panto, share := u.share, lim := u.lim
          link := u.link }) ∧
      (opened → s.isTruck = true → (5 ≤ n ∨ 2 ≤ n ∧ s.sensorFault = true) →
        u = { s with clock := max s.clock t, sweeper := u.sweeper, port := u.port }) ∧
      (opened → s.isTruck = false → n ≤ 1 →
        u = { s with clock := max s.clock t, sweeper := u.sweeper, port := u.port, feeder := {
          overload := .normal, overTimer := none, releaseTimer := none, repeatTimer := none, repeatLapsed := false } }) ∧
      (opened → s.isTruck = false → 2 ≤ n → u = { s with clock := max s.clock t, sweeper := u.sweeper })

/-- ARC_START (R145 to R147, R154, R155, R163): with the gate open a record is made, or with two pending merged into the newer; the pair
request is set, a held sample is discarded unless its pair is formed by then and only waits to be handed, and the sweep starts again up
to four times in a row, or the test is abandoned and stays pending. With the gate closed nothing happens. A start
taken after a warm reset in the same instant makes no record (R163); that the Sweeper takes its request there (R152) is the model's
reading (notes/assumptions/28.md). -/
def Obligations.ArcStartOpensARecordAndRestartsTheSweep : Prop :=
  ∀ (t : Nat) (s : State), s.startup = .ready →
    let now := (s.takenAt t).arcNow
    let asked := { s.sweeper with
      pairRequest := some (max s.clock t)
      heldSample := match s.sweeper.heldSample with
        | some h => if h.since + 20 ≤ max s.clock t then some h else none
        | none => none }
    (s.panto.state = .lowered ∨ s.panto.state = .faulted →
      exec (.arcStart t) s = .next { s with clock := max s.clock t } ∧
      exec (.arcEnd t) s = .next { s with clock := max s.clock t }) ∧
    (s.panto.state ≠ .lowered → s.panto.state ≠ .faulted →
      ∃ u, exec (.arcStart t) s = .next u ∧
        (s.arc.resetAt = some (max s.clock t) → u.arc = s.arc) ∧
        (s.arc.resetAt ≠ some (max s.clock t) → s.arc.pending.length < 2 → u.arc.pending = s.arc.pending ++ [{
          start := now, duration := none, pairReceived := false, current := none, voltage := none, count := 1
          aged := false }]) ∧
        (∀ r q, s.arc.resetAt ≠ some (max s.clock t) → s.arc.pending = [r, q] → u.arc.pending = [r, { q with count := min 255 (q.count + 1) }]) ∧
        u.arc = { s.arc with pending := u.arc.pending } ∧
        (∀ since, s.sweeper.conversion = .sweep since →
          (s.sweeper.abortCount < 4 → u.sweeper = { asked with
            conversion := .sweep (max s.clock t), abortCount := s.sweeper.abortCount + 1
            pairSamples := Vector.replicate 18 none }) ∧
          (4 ≤ s.sweeper.abortCount → u.sweeper = asked)) ∧
        (∀ since, s.sweeper.conversion = .test since → u.sweeper = { asked with
          conversion := .sweep (max s.clock t), pairSamples := Vector.replicate 18 none }) ∧
        u = { s with clock := max s.clock t, arc := u.arc, sweeper := u.sweeper })

/-- ARC_END, ARC_SATURATION, CHANNEL_0_SAMPLE_HELD and MEASUREMENT_PAIR_HANDED (R147, R156 to R158, R160): the oldest record without a
duration takes it, the pair goes to every record that lacks one, and the complete records at the front enter the log in start order, 16
at most, the storm count of R160 (`ArcStormHasTwoThresholds`) taken after each entry. A pair clears the pair request, but for one set by
a start taken before it in the same instant (R163); one that finds no record lacking a pair is discarded. Both samples of a pair are
samples of the sweep they were taken in, at their positions, while it is in progress (R147). -/
def Obligations.ArcRecordsAreCompletedAndLoggedInOrder : Prop :=
  ∀ (t : Nat) (s : State), s.startup = .ready →
    let now := (s.takenAt t).arcNow
    let enters (n : State) (r : ArcRecord) : State := State.takeStormCount { n with arc := { n.arc with
      log := (if n.arc.log.length < 16 then n.arc.log else n.arc.log.tail) ++ [r] } }
    let done (r : ArcRecord) : Bool := r.duration.isSome && r.pairReceived
    let settles (i : Instr) (pending : List ArcRecord) (w : Sweeper) : Prop := ∃ n,
      n = (pending.takeWhile done).foldl enters { s with clock := max s.clock t, sweeper := w } ∧
      exec i s = .next { n with arc := { n.arc with pending := pending.dropWhile done } }
    (∀ pre r post, s.arc.pending = pre ++ r :: post → (∀ q ∈ pre, q.duration ≠ none) → r.duration = none →
      (s.panto.state ≠ .lowered → s.panto.state ≠ .faulted →
        settles (.arcEnd t) (pre ++ { r with duration := some (min 65535 (now - r.start).toNat) } :: post) s.sweeper) ∧
      (65535 ≤ (now - r.start).toNat →
        settles (.arcSaturation t) (pre ++ { r with duration := some 65535 } :: post) s.sweeper)) ∧
    ((∀ q ∈ s.arc.pending, q.duration ≠ none) → exec (.arcEnd t) s = .next { s with clock := max s.clock t } ∧
      exec (.arcSaturation t) s = .next { s with clock := max s.clock t }) ∧
    (∀ since request k, ∀ sample : Code, s.sweeper.conversion = .sweep since → s.sweeper.pairRequest = some request →
      s.sweeper.heldSample = none → k % 3 = 0 → k ≤ 15 → request ≤ since + 20 * k → (3 ≤ k → since + 20 * (k - 3) < request) →
      since + 20 * (k + 1) ≤ max s.clock t →
      exec (.channel0SampleHeld t sample) s = .next { s with
        clock := max s.clock t
        sweeper := { s.sweeper with
          heldSample := some { code := sample, begun := since + 20 * k, since := max s.clock t }
          pairSamples := s.sweeper.pairSamples.setIfInBounds k (some sample) } }) ∧
    (∀ held, ∀ sample : Code, s.sweeper.heldSample = some held → held.since + 20 ≤ max s.clock t →
      let w := { s.sweeper with
        pairSamples := match s.sweeper.conversion with
          | .sweep since => if since ≤ held.begun then
              s.sweeper.pairSamples.setIfInBounds ((held.begun - since) / 20 + 1) (some sample)
            else s.sweeper.pairSamples
          | _ => s.sweeper.pairSamples
        heldSample := none
        pairRequest := match s.sweeper.pairRequest with
          | some request => if held.since + 20 ≤ request then some request else none
          | none => none }
      ((∀ q ∈ s.arc.pending, q.pairReceived = true) → exec (.measurementPairHanded t sample) s =
        .next { s with clock := max s.clock t, sweeper := w }) ∧
      ((∃ q ∈ s.arc.pending, q.pairReceived = false) →
      settles (.measurementPairHanded t sample)
        (s.arc.pending.map fun r => if r.pairReceived then r else { r with
          pairReceived := true
          current := if s.openChannel 0 then none else some held.code
          voltage := if s.openChannel 1 then none else some sample }) w))

/-- R160: the count is the arc counts of the records in the window and not aged; the flag is set at the threshold, with ARC_STORM and
the floor's cap, and cleared at half of it or below; a record found as old as the window is marked aged. -/
def Obligations.ArcStormHasTwoThresholds : Prop :=
  ∀ s : State,
    let inWindow (r : ArcRecord) : Bool := !r.aged && decide ((s.arcNow - r.start).toNat < 100 * s.config.arcWindow)
    let count := ((s.arc.log.filter inWindow).map (·.count)).sum
    (s.arc.storm = false → s.config.stormThreshold ≤ count →
      s.takeStormCount.arc.storm = true ∧ s.takeStormCount.port = s.port.raise .arcStorm ∧
      s.takeStormCount.lim = (s.immediateCap s.config.floor).lim) ∧
    (s.arc.storm = false → count < s.config.stormThreshold → s.takeStormCount.arc.storm = false) ∧
    (s.arc.storm = true → count ≤ s.config.stormThreshold / 2 → s.takeStormCount.arc.storm = false) ∧
    (s.arc.storm = true → s.config.stormThreshold / 2 < count → s.takeStormCount.arc.storm = true) ∧
    (s.arc.storm = true ∨ count < s.config.stormThreshold →
      s.takeStormCount.port = s.port ∧ s.takeStormCount.lim = s.lim) ∧
    s.takeStormCount.arc.log = s.arc.log.map (fun r => { r with aged := !inWindow r }) ∧
    s.takeStormCount.arc.pending = s.arc.pending ∧
    s.takeStormCount = { s with arc := s.takeStormCount.arc, port := s.takeStormCount.port, lim := s.takeStormCount.lim }

/-! ### The line -/

/-- FRAME_DUE and TRANSMISSION_END (R102, R105, R110 to R114): with MCD inactive the frame leaves its slot and is sent whole, a frame in
assembly being dropped; with MCD active it is deferred with a backoff of 1 to 16 ms, and dropped at 12 deferrals, or 32 for an urgent
frame with TX_GIVEUP; at the end of its line time the next frame is selected, the urgent ones in queueing order before the periodic one,
which waits 0 to 7 ms. A frame placed in a full slot replaces the frame there, and its count, order and wait stay; one placed in an
empty slot fills it with count 0, after the other urgent slot where that is full, and is selected at once by an idle transmitter, or, if
urgent, by one that waits on the periodic frame. The character still arriving as the transmission ends, one begun less than 260 µs
before, is taken after it; that one ending in that very µs is not is the model's choice (notes/assumptions/14.md). -/
def Obligations.FramesAreSentDeferredAndSelected : Prop :=
  (∀ (t due : Nat) (k : Slot) (q : Queued) (s : State), s.startup = .ready → s.link.transmitter = .waiting k due →
    due ≤ max s.clock t → s.link.slot k = some q →
    let limit := match k with | .periodic => 12 | .shed => 32 | .depart => 32
    let r := lfsrDraw s.link.lfsr
    (∃ u, exec (.frameDue t false) s = .next u ∧ u.mtxen = true ∧ u.link.slot k = none ∧
      u = { s with clock := max s.clock t, link := { s.link.setSlot k none with
        transmitter := .sending q.frame (max s.clock t), assembler := .waiting } }) ∧
    (q.attempts + 1 < limit → exec (.frameDue t true) s = .next { s with
      clock := max s.clock t
      link := { s.link.setSlot k (some { q with attempts := q.attempts + 1 }) with
        lfsr := r, transmitter := .waiting k (max s.clock t + 1000 * (r.toNat % 16 + 1)) } }) ∧
    (limit ≤ q.attempts + 1 → exec (.frameDue t true) s = .next { s with
      clock := max s.clock t
      link := (s.link.setSlot k none).select (max s.clock t)
      port := if k = .periodic then s.port else s.port.raise .txGiveup })) ∧
  (∀ (t since : Nat) (f : Frame) (s : State), s.startup = .ready → s.link.transmitter = .sending f since →
    let time := match f.payload with | .demand _ => 5208 | .supply _ => 4427 | .shed _ => 2604 | .depart => 1823
    (since + time ≤ max s.clock t → ∃ u, exec (.transmissionEnd t) s = .next u ∧ u.mtxen = false ∧
      u = { s with
        clock := max s.clock t, link := { s.link.select (max s.clock t) with listenFrom := max s.clock t - 259 } }) ∧
    (max s.clock t < since + time → exec (.transmissionEnd t) s = .next { s with clock := max s.clock t })) ∧
  (∀ (l : CarrierLink) (k : Slot) (f : Frame) (now : Nat),
    (∀ q, l.slot k = some q → l.place k f now = l.setSlot k (some { frame := f, attempts := q.attempts })) ∧
    (l.slot k = none →
      let filled := { l.setSlot k (some { frame := f, attempts := 0 }) with
        departFirst := match k with
          | .periodic => l.departFirst
          | .shed => l.depart.isSome
          | .depart => l.shed.isNone }
      let selects := l.transmitter = .idle ∨ k ≠ .periodic ∧ ∃ due, l.transmitter = .waiting .periodic due
      (selects → l.place k f now = filled.select now) ∧ (¬ selects → l.place k f now = filled)) ∧
    (∀ q, l.slot .periodic = l.periodic ∧ l.slot .shed = l.shed ∧ l.slot .depart = l.depart ∧
      l.setSlot .periodic q = { l with periodic := q } ∧ l.setSlot .shed q = { l with shed := q } ∧
      l.setSlot .depart q = { l with depart := q })) ∧
  ∀ (l : CarrierLink) (now : Nat),
    (l.shed = none → l.depart = none → l.periodic = none → l.select now = { l with transmitter := .idle }) ∧
    (l.shed ≠ none → (l.depart = none ∨ l.departFirst = false) → l.select now = { l with transmitter := .waiting .shed now }) ∧
    (l.depart ≠ none → (l.shed = none ∨ l.departFirst = true) → l.select now = { l with transmitter := .waiting .depart now }) ∧
    (l.shed = none → l.depart = none → l.periodic ≠ none → l.select now = { l with
      lfsr := lfsrDraw l.lfsr
      transmitter := .waiting .periodic (now + 1000 * ((lfsrDraw l.lfsr).toNat % 8)) })

/-- R112: a draw is four steps, and a step moves every bit one place toward bit 0 and makes the new bit 15 of the old bits 0, 2, 3 and
5; a step can be undone, so it never meets the same register from two, and a register that is not 0 never reaches 0. -/
def Obligations.RandomGeneratorNeverReachesZero : Prop :=
  (∀ a : BitVec 16, lfsrDraw a = lfsrStep (lfsrStep (lfsrStep (lfsrStep a)))) ∧
  (∀ a b : BitVec 16, lfsrStep a = lfsrStep b → a = b) ∧ (∀ a : BitVec 16, a ≠ 0 → lfsrDraw a ≠ 0) ∧
  (∀ a : BitVec 16, ∀ n, n < 15 → (lfsrStep a).getLsbD n = a.getLsbD (n + 1)) ∧
  ∀ a : BitVec 16, (lfsrStep a).getLsbD 15 =
    (((a.getLsbD 0 ^^ a.getLsbD 2) ^^ a.getLsbD 3) ^^ a.getLsbD 5)

/-- TRANSMIT_OFF and TRANSMIT_ON (R55, R116, R117): off empties the periodic slot, queues a DEPART in ACTIVE where the address is not
0x0000, clears the flag and makes the limit 0 in ACTIVE; with the flag clear it changes nothing; on sets the flag and nothing else. Both
answer OK. -/
def Obligations.TransmitCommandsSilenceAndRelease : Prop :=
  ∀ (t : Nat) (s : State), s.startup = .ready →
    (exec (.transmitOn t) s = .next { s with
      clock := max s.clock t, link := { s.link with txEnable := true }, port := { s.port with response := [0x00] } }) ∧
    (s.link.txEnable = false → exec (.transmitOff t) s = .next { s with
      clock := max s.clock t, port := { s.port with response := [0x00] } }) ∧
    (s.link.txEnable = true → ∃ u, exec (.transmitOff t) s = .next u ∧
      u.link.txEnable = false ∧ u.link.periodic = none ∧ u.link.shed = s.link.shed ∧
      u.port = { s.port with response := [0x00] } ∧
      (s.isTruck = true → s.share.phase = .active →
        u.lim = ((s.takenAt t).immediateCap 0).lim ∧ u.lim.limit = 0 ∧ u.mode = .silent ∧
        u.share = { s.share with collapseTimer := none } ∧
        (s.config.address ≠ 0 → ∃ q, u.link.depart = some q ∧ q.frame = ⟨s.config.address, .depart⟩ ∧
          q.attempts = (s.link.depart.map (·.attempts)).getD 0) ∧
        (s.config.address = 0 → u.link.depart = s.link.depart)) ∧
      (s.isTruck = false ∨ s.share.phase ≠ .active →
        u.lim = s.lim ∧ u.share = s.share ∧ u.link.depart = s.link.depart) ∧
      u = { s with clock := max s.clock t, share := u.share, lim := u.lim, link := u.link, port := u.port })

/-! ### The feeder -/

/-- OVER_TIMER_EXPIRY, REPEAT_TIMER_EXPIRY, RELEASE_TIMER_EXPIRY and the sets of a feeder (R166 to R168): a SHED the link takes fills
its slot and raises SHED_SENT, one it discards does neither; FEEDER_OVERLOAD is raised in either case. -/
def Obligations.FeederCallsRepeatsAndReleasesItsShed : Prop :=
  (∀ (t d : Nat) (s : State), s.startup = .ready → d ≤ max s.clock t →
    let takes := s.link.txEnable = true ∧ s.config.address ≠ 0
    let units := s.config.feederHold / 10
    let counted := s.validChannel 0 = true ∧ s.validChannel 1 = true
    let above := counted ∧ s.config.capacity + s.config.capacity / 16 < 4 * s.code 0
    let queues (i : Instr) (h : Nat) (f : FeederLogic) (also : TruckPort → TruckPort) : Prop := ∃ u, exec i s = .next u ∧
      (takes → u.port = also (s.port.raise .shedSent) ∧ u.link.periodic = s.link.periodic ∧ u.link.depart = s.link.depart ∧
        ∃ q, u.link.shed = some q ∧ q.frame = ⟨s.config.address, .shed ⟨1, BitVec.ofNat 16 h⟩⟩ ∧
          q.attempts = (s.link.shed.map (·.attempts)).getD 0) ∧
      (¬ takes → u.port = also s.port ∧ u.link = s.link) ∧
      u = { s with clock := max s.clock t, feeder := f, link := u.link, port := u.port }
    (s.feeder.overload = .over → s.feeder.overTimer = some d →
      queues (.overTimerExpiry t) units { s.feeder with
          overload := .shedding, overTimer := none, repeatTimer := some (max s.clock t + 10000 * units), repeatLapsed := false }
        (·.raise .feederOverload)) ∧
    (s.feeder.overload = .shedding → s.feeder.repeatTimer = some d →
      (above → queues (.repeatTimerExpiry t) units { s.feeder with
          repeatTimer := some (max s.clock t + 10000 * units), repeatLapsed := false } id) ∧
      (¬ above → exec (.repeatTimerExpiry t) s = .next { s with
        clock := max s.clock t, feeder := { s.feeder with repeatTimer := none, repeatLapsed := true } })) ∧
    (s.feeder.overload = .shedding → s.feeder.releaseTimer = some d →
      queues (.releaseTimerExpiry t) 0
        { overload := .normal, overTimer := none, releaseTimer := none, repeatTimer := none, repeatLapsed := false } id)) ∧
  ∀ s : State,
    let takes := s.link.txEnable = true ∧ s.config.address ≠ 0
    let above := s.config.capacity + s.config.capacity / 16 < 4 * s.code 0
    let low := 4 * s.code 0 ≤ s.config.capacity - s.config.capacity / 8
    ((s.validChannel 0 = false ∨ s.validChannel 1 = false) → s.setInFeeder = s) ∧
    (s.validChannel 0 = true → s.validChannel 1 = true →
      (s.feeder.overload = .normal → above → s.setInFeeder = { s with feeder := { s.feeder with
        overload := .over, overTimer := some (s.clock + 200000) } }) ∧
      (s.feeder.overload = .normal → ¬ above → s.setInFeeder = s) ∧
      (s.feeder.overload = .over → above → s.setInFeeder = s) ∧
      (s.feeder.overload = .over → ¬ above → s.setInFeeder = { s with feeder := { s.feeder with
        overload := .normal, overTimer := none } }) ∧
      (s.feeder.overload = .shedding → low → s.feeder.releaseTimer = none → ¬ above →
        s.setInFeeder = { s with feeder := { s.feeder with releaseTimer := some (s.clock + 200000) } }) ∧
      (s.feeder.overload = .shedding → low → s.feeder.releaseTimer ≠ none → ¬ above → s.setInFeeder = s) ∧
      (s.feeder.overload = .shedding → ¬ low → ¬ (above ∧ s.feeder.repeatLapsed = true) →
        s.setInFeeder = { s with feeder := { s.feeder with releaseTimer := none } }) ∧
      (s.feeder.overload = .shedding → above → s.feeder.repeatLapsed = true →
        (takes → s.setInFeeder.port = s.port.raise .shedSent ∧ s.setInFeeder.link.periodic = s.link.periodic ∧
          s.setInFeeder.link.depart = s.link.depart ∧
          ∃ q, s.setInFeeder.link.shed = some q ∧
            q.frame = ⟨s.config.address, .shed ⟨1, BitVec.ofNat 16 (s.config.feederHold / 10)⟩⟩) ∧
        (¬ takes → s.setInFeeder.port = s.port ∧ s.setInFeeder.link = s.link) ∧
        s.setInFeeder = { s with
          link := s.setInFeeder.link
          port := s.setInFeeder.port
          feeder := { s.feeder with
            releaseTimer := none, repeatLapsed := false
            repeatTimer := some (s.clock + 10000 * (s.config.feederHold / 10)) } }))

/-! ### Bytes -/

/-- R103 and R104: a frame's bytes, kind by kind, and no two frames share theirs; the CRC starts at 0xFFFF and takes each byte from its
most significant bit to its least, a bit that differs from the top bit of the register bringing in 0x1021, and of "123456789" it is
0x29B1. -/
def Obligations.FrameBytesDetermineTheFrame : Prop :=
  (∀ f g : Frame, f.bytes = g.bytes → f = g) ∧
  (∀ (f : Frame), ∃ covered, f.bytes = [0xA5#8] ++ covered ++ halfBytes (crc16 covered)) ∧
  (let takes (crc : BitVec 16) (bit : Bool) : BitVec 16 :=
    if (crc.getLsbD 15 ^^ bit) = true then (crc <<< 1) ^^^ 0x1021#16 else crc <<< 1
   crc16 [] = 0xFFFF ∧
   (∀ (bytes : List Byte) (b : Byte), crc16 (bytes ++ [b]) =
    takes (takes (takes (takes (takes (takes (takes (takes (crc16 bytes) (b.getLsbD 7)) (b.getLsbD 6)) (b.getLsbD 5))
      (b.getLsbD 4)) (b.getLsbD 3)) (b.getLsbD 2)) (b.getLsbD 1)) (b.getLsbD 0)) ∧
   crc16 [0x31, 0x32, 0x33, 0x34, 0x35, 0x36, 0x37, 0x38, 0x39] = 0x29B1) ∧
  ∀ a : Address,
    let hi (h : Half) : Byte := h.extractLsb' 8 8
    let lo (h : Half) : Byte := h.extractLsb' 0 8
    let ends (f : Frame) (bytes : List Byte) : Prop := f.bytes = bytes ++ halfBytes f.crc ∧ f.crc = crc16 (bytes.drop 1)
    (∀ p : DemandPayload, ends ⟨a, .demand p⟩ [0xA5, 0x01, hi a, lo a, 13, p.sharingMode, p.weight, p.period,
      hi p.effectiveDemand, lo p.effectiveDemand, hi p.floor, lo p.floor, hi p.allocation, lo p.allocation,
      hi p.measured, lo p.measured, hi p.voltage, lo p.voltage]) ∧
    (∀ p : SupplyPayload, ends ⟨a, .supply p⟩ [0xA5, 0x02, hi a, lo a, 10, p.period, hi p.capacity, lo p.capacity,
      hi p.feederCurrent, lo p.feederCurrent, hi p.unaccounted, lo p.unaccounted, hi p.voltage, lo p.voltage, p.flags]) ∧
    (∀ p : ShedPayload, ends ⟨a, .shed p⟩ [0xA5, 0x03, hi a, lo a, 3, p.reason, hi p.holdTime, lo p.holdTime]) ∧
    ends ⟨a, .depart⟩ [0xA5, 0x04, hi a, lo a, 0]

/-- R171 and section 12.2: the bytes of every port command are taken as that command, nothing else is, and nothing is taken while a
parameter byte is missing. -/
def Obligations.PortTransactionsRoundTrip : Prop :=
  (∀ (c : Instr) (bytes : List Byte), c.wellFormed = true → transactionBytes c = some bytes →
    (∃ t e, decodeTransaction t e bytes = some c) ∧ bytes.length = 1 + ((bytes.head?.bind paramCount).getD 0)) ∧
  (∀ (t : Nat) (e : Bool) (bytes : List Byte) (c : Instr), decodeTransaction t e bytes = some c →
    transactionBytes c = some bytes ∧ c.wellFormed = true) ∧
  ∀ (t : Nat) (e : Bool) (bytes : List Byte), incomplete bytes = true → decodeTransaction t e bytes = none

/-- R179 and R180: the configuration taken from an accepted block has each field from its own place in the table of R180, clamped to the
nearest bound of its range, with the address 0xFFFF read as 0x0000, V_knee at or below V_min taken as V_min + 100 and V_collapse above
V_min as V_min (`TakenFrom` writes the table out), and is in range whatever the block holds; the load result is accepted exactly where
nothing was altered. READ CONFIG's layout is the block's, so a block that spells a configuration in range is accepted as that
configuration. -/
def Obligations.ConfigurationBlockRoundTrip : Prop :=
  (∀ (c : Configuration) (v : Vector Byte 64), configForm c → c.vKnee ≤ 4095 →
    v.toList = configBytes c ++ halfBytes (crc16 (configBytes c)) → loadOutcome (some v) = (.accepted, c)) ∧
  (∀ b : List Byte, configForm (acceptedConfiguration b) ∧ TakenFrom (acceptedConfiguration b) b ∧
    (blockAdjusted b = true ↔ Altered b)) ∧
  ∀ b c : Configuration, configForm b → configForm c → configBytes b = configBytes c → b = c

/-! ### The truck port -/

/-- The read commands (R22, R42, R88, R161, R172, R174, R180, R181): each answers OK with the bytes of its layout, and changes nothing
but the response; an index of no place is a bad parameter, an empty place reads 0 throughout. The remaining time of a hold is its expiry
less now, every expiry being at most 5000 ms ahead. That an entry or a hold read in the millisecond of its end, before its removal, is
reported with the age of its removal or with 0 remaining is the model's choice (notes/assumptions/32.md). -/
def Obligations.PortReadsReportWhatStands : Prop :=
  ∀ (t : Nat) (s : State), s.startup = .ready →
    let now := (s.takenAt t).now
    let one (n : Nat) : Byte := BitVec.ofNat 8 n
    let two (n : Nat) : List Byte := [one (n / 256), one (n % 256)]
    let bit (b : Bool) : Nat := if b then 1 else 0
    let answers (i : Instr) (response : List Byte) : Prop :=
      exec i s = .next { s with clock := max s.clock t, port := { s.port with response := response } }
    let r := s.share.budget
    let m := s.sweeper
    let c := s.config
    let strobe : Nat := match c.strobeMode with | .off => 0 | .onChange => 1 | .everyApplication => 2
    (answers (.readStatus t) (([0x00,
      (match s.panto.state with
        | .lowered => 0 | .raising => 1 | .contact => 2 | .unloading => 3 | .lowering => 4 | .faulted => 5),
      (match s.share.phase with | .offline => 0 | .listen => 1 | .active => 2 | .crossing => 3),
      (match s.mode with | .none => 0 | .sharing => 1 | .held => 2 | .degraded => 3 | .silent => 4),
      (match s.share.crossSub with | .none => 0 | .drain => 1 | .gap => 2 | .dead => 3)] : List Byte)
      ++ two s.lim.limit ++ two s.lim.lastTarget ++ [one (bit s.arc.storm), one s.holds.length, one (bit (!s.alertN))])) ∧
    (answers (.readBudget t) ([0x00] ++ two r.capacity ++ two r.unaccounted ++ two r.staleReserve ++ two r.budget
      ++ [one r.sharers] ++ two r.securedSum ++ [one r.stage] ++ two r.dSelf ++ two r.aSelf ++ two r.target ++ two r.limit
      ++ two r.unallocated)) ∧
    (s.holds.length ≤ 4 → (∀ h ∈ s.holds, (h.expiry - now).toNat ≤ 5000) → ∃ places : List (List Byte), places.length = 4 ∧
      (∀ (k : Nat) (h : Hold), s.holds[k]? = some h → places[k]? = some (halfBytes h.origin
        ++ [if h.reason = 1 ∨ h.reason = 2 then h.reason else 0] ++ two (h.expiry - now).toNat)) ∧
      (∀ k : Nat, s.holds.length ≤ k → k < 4 → places[k]? = some [0, 0, 0, 0, 0]) ∧
      answers (.readHolds t) ([0x00, one s.holds.length] ++ places.flatten)) ∧
    (answers (.readMeasurements t) ([0x00] ++ two (s.code 0) ++ two (s.code 1) ++ two (s.code 2) ++ two (s.code 3)
      ++ two (s.code 4) ++ two (s.code 5) ++ two (s.code 6) ++ two (s.code 7) ++ [m.published.valid, m.openFlags])) ∧
    (answers (.readConfig t) ([0x00, 0x01] ++ two c.address.toNat
      ++ [one ((if c.role = .feeder then 1 else 0) + 2 * strobe + 8 * c.stormThreshold), one c.period] ++ two c.listenTime
      ++ [one (16 * c.weight0 + c.weight1), one (16 * c.weight2 + c.weight3)] ++ two c.floor ++ two c.rating ++ two c.rampStep
      ++ two c.capacity ++ two c.vMin ++ two c.vKnee ++ two c.vCollapse ++ two c.vDead ++ two c.releaseCurrent
      ++ two c.unloadTimeout ++ two c.raiseTimeout ++ two c.lowerTimeout ++ two c.contactThreshold ++ two c.windowLow
      ++ two c.windowHigh ++ two c.lossThreshold ++ [one c.lossTime] ++ two c.imbalanceLimit
      ++ [one c.raiseDuty, one c.lowerDuty, one c.holdStart, one c.holdMin, one c.holdMax, one c.holdStep] ++ two c.topStop
      ++ two c.loweredThreshold ++ two c.arcWindow ++ two c.collapseHold ++ two c.feederHold ++ two c.crossingTimeout)) ∧
    (answers (.readIdentity t) (([0x00, 0x7A, 0x48, 0x01,
      (match s.loadResult with | .accepted => 0 | .acceptedClamped => 1 | .notRead => 2 | .badVersion => 3 | .badCrc => 4)] : List Byte)
      ++ halfBytes m.selfCheckWord)) ∧
    (∀ index : Byte,
      (12 ≤ index.toNat → answers (.readPeer t index) [0x03]) ∧
      (index.toNat < 12 → s.peers.length ≤ index.toNat → answers (.readPeer t index) (List.replicate 29 0)) ∧
      (index.toNat < 12 → ∀ p, s.peers[index.toNat]? = some p →
        let fresh : List Byte := [if p.isFresh now then 1 else 2]
        (∀ d, p.part = .truck d → answers (.readPeer t index) ([0x00] ++ halfBytes p.address ++ [1, one p.period]
          ++ two (p.age now) ++ fresh ++ [one d.sharingMode, one d.weight] ++ two d.effectiveDemand ++ two d.floor
          ++ two d.allocation ++ two d.measured ++ two d.voltage ++ List.replicate 9 0)) ∧
        (∀ d, p.part = .feeder d → answers (.readPeer t index) ([0x00] ++ halfBytes p.address ++ [2, one p.period]
          ++ two (p.age now) ++ fresh ++ List.replicate 12 0 ++ two d.capacity ++ two d.feederCurrent ++ two d.unaccounted
          ++ two d.voltage ++ [d.flags]))) ∧
      (16 ≤ index.toNat → answers (.readArc t index) [0x03]) ∧
      (index.toNat < 16 → s.arc.log.length ≤ index.toNat → answers (.readArc t index) (List.replicate 12 0)) ∧
      (index.toNat < 16 → ∀ a, s.arc.log.reverse[index.toNat]? = some a → answers (.readArc t index) ([0x00]
        ++ [one (a.start.toNat / 65536)] ++ two (a.start.toNat % 65536) ++ two (a.duration.getD 0)
        ++ two (a.current.getD 0).toNat ++ two (a.voltage.getD 0).toNat
        ++ [one (bit a.duration.isSome + 2 * bit a.current.isSome + 4 * bit a.voltage.isSome), one a.count])))

/-- READ_EVENTS, with bits 31 to 24 of each set first, CLEAR_EVENTS, WRITE_EVENT_MASK and WRITE_DEMAND (R173, R175 to R178): a raised event is flagged and fresh; a read
empties the fresh set; a clear takes away what is masked and not fresh; ALERT_N is low exactly while a masked flag is set; a demand is
clamped and stored with its class, unless the class is above 3. -/
def Obligations.EventFlagsAreClearedOnlyOnceRead : Prop :=
  (∀ (p : TruckPort) (e : Event) (n : Nat),
    (p.raise e).flags.getLsbD n = (p.flags.getLsbD n || decide (n = e.bit)) ∧
    (p.raise e).fresh.getLsbD n = (p.fresh.getLsbD n || decide (n = e.bit)) ∧ e.bit < 20 ∧
    p.raise e = { p with flags := (p.raise e).flags, fresh := (p.raise e).fresh }) ∧
  (∀ s : State, s.alertN = false ↔ ∃ n, s.port.flags.getLsbD n = true ∧ s.port.mask.getLsbD n = true) ∧
  ∀ (t : Nat) (s : State), s.startup = .ready →
    let four (f : FlagSet) : List Byte := [f.extractLsb' 24 8, f.extractLsb' 16 8, f.extractLsb' 8 8, f.extractLsb' 0 8]
    (exec (.readEvents t) s = .next { s with
      clock := max s.clock t
      port := { s.port with response := [0x00] ++ four s.port.flags ++ four s.port.fresh, fresh := 0 } }) ∧
    (∀ mask : FlagSet, ∃ u, exec (.clearEvents t mask) s = .next u ∧
      (∀ n, u.port.flags.getLsbD n =
        (s.port.flags.getLsbD n && !(mask.getLsbD n && !s.port.fresh.getLsbD n))) ∧
      u = { s with clock := max s.clock t, port := { s.port with response := [0x00], flags := u.port.flags } }) ∧
    (∀ mask : FlagSet, exec (.writeEventMask t mask) s = .next { s with
      clock := max s.clock t, port := { s.port with response := [0x00], mask := mask } }) ∧
    (∀ (demand : Half) (cls : Byte),
      (4 ≤ cls.toNat → exec (.writeDemand t demand cls) s = .next { s with
        clock := max s.clock t, port := { s.port with response := [0x03] } }) ∧
      (∀ c : Fin 4, c.val = cls.toNat → exec (.writeDemand t demand cls) s = .next { s with
        clock := max s.clock t
        port := { s.port with response := [0x00] }
        share := { s.share with requestedDemand := min 4095 demand.toNat, demandClass := c } }))

/-- R171 and R181: before ready every port command is answered NOT_READY and not taken; at ready an unknown code is answered so and
changes nothing; an abandoned transaction changes nothing and leaves no response, nor does a fall of WARM_N, of SECT_AHEAD or of EMLOWER_N before ready. -/
def Obligations.CommandsNotTakenChangeNothing : Prop :=
  (∀ (t : Nat) (e : Bool) (bytes : List Byte) (c : Instr) (s : State), decodeTransaction t e bytes = some c →
    s.startup = .loading ∨ s.startup = .selfCheck →
    exec c s = .next { s.takenAt t with port := { s.port with response := [0x01] } }) ∧
  (∀ (t : Nat) (code : Byte) (s : State), paramCount code = none → s.startup = .ready →
    exec (.unknownCommand t code) s = .next { s with
      clock := max s.clock t, port := { s.port with response := [0x02] } }) ∧
  (∀ (t : Nat) (bytes : List Byte) (s : State), exec (.transactionAbandoned t bytes) s =
    .next { s.takenAt t with port := { s.port with response := [] } }) ∧
  (∀ (s : State) (early n : Nat), (n < early → s.misoByte early n = 0xFF) ∧
    (∀ b, early ≤ n → s.port.response[n - early]? = some b → s.misoByte early n = b) ∧
    (early ≤ n → s.port.response.length ≤ n - early → s.misoByte early n = 0x00)) ∧
  ∀ (t : Nat) (s : State), s.startup ≠ .ready →
    exec (.warmNFall t) s = .next (s.takenAt t) ∧ exec (.sectAheadFall t) s = .next (s.takenAt t) ∧
    exec (.emlowerNFall t) s = .next (s.takenAt t)

/-! ### Start-up and warm reset -/

/-- POWER_ON_RESET, RESET_N_RELEASE, CONFIGURATION_LOAD_END and SELFCHECK_END (R44, R112, R136, R141, R148, R149, R166, R179, R181): the
outputs at their reset levels; the grounds for rejection in their order, with the defaults, the address 0x0000 and CONFIG_DEFAULT; the
timebases at 0 and the random generator at the address; 680 µs later, from the overload state NORMAL that stands until then, the OPEN
flags, the first set, the self-check word, SELFCHECK_FAIL, the cycle timer, the pantograph's first state, and on a feeder OVER where
that set reads above the over threshold. The model's choices in it: the power-on values stand from the fall of RESET_N already
(notes/assumptions/7.md), those the manual does not give are the model's own (1.md, and 24.md for the pantograph before ready and a
feeder's hold duty), a rejected block leaves a truck (29.md), and a feeder's first set counts (26.md). -/
def Obligations.StartUpPassesThroughItsStages : Prop :=
  (∀ s : State, ∃ u, exec .powerOnReset s = .next u ∧ u = { State.reset with startup := .held, pending := s.pending } ∧
    u.lim.limitOut = false ∧ u.lim.lstbOut = false ∧ u.panto.actPwmOut = false ∧ u.panto.actDirOut = false ∧
    u.mtxen = false ∧ u.mtxd = true ∧ u.alertN = true) ∧
  (∀ s : State, (s.startup = .held → exec .resetNRelease s = .next { State.reset with pending := s.pending }) ∧
    (s.startup ≠ .held → exec .resetNRelease s = .next s)) ∧
  (∀ (block : Option (Vector Byte 64)) (s : State), s.startup = .loading → ∃ u,
    exec (.configurationLoadEnd block) s = .next u ∧
    (block = none → u.loadResult = .notRead) ∧
    (∀ v, block = some v →
      let b := v.toList
      let crcGood := (crc16 (b.take 62)).toNat = 256 * (b.getD 62 0).toNat + (b.getD 63 0).toNat
      (b.getD 0 0 ≠ 0x01 → u.loadResult = .badVersion) ∧
      (b.getD 0 0 = 0x01 → ¬ crcGood → u.loadResult = .badCrc) ∧
      (b.getD 0 0 = 0x01 → crcGood → TakenFrom u.config b ∧ (Altered b → u.loadResult = .acceptedClamped) ∧
        (¬ Altered b → u.loadResult = .accepted))) ∧
    (loadRejected u.loadResult = true → u.config = defaultConfiguration ∧ u.config.address = 0 ∧
      u.port = s.port.raise .configDefault) ∧
    (loadRejected u.loadResult = false → u.port = s.port) ∧
    u = { s with
      startup := .selfCheck, clock := 0, config := u.config, loadResult := u.loadResult, port := u.port
      link := { s.link with lfsr := u.config.address, listenFrom := 0 }, sweeper := { s.sweeper with conversion := .selfCheck 0 } }) ∧
  ∀ (t : Nat) (tests : Vector WireTest 8) (samples : Vector Code 18) (s : State), s.startup = .selfCheck →
    (max s.clock t < 680 → exec (.selfcheckEnd t tests samples) s = .next { s with clock := max s.clock t }) ∧
    (680 ≤ max s.clock t → s.feeder.overload = .normal → ∃ u, exec (.selfcheckEnd t tests samples) s = .next u ∧
      (∀ (n : Nat) (w : WireTest), n < 8 → tests.toList[n]? = some w →
        (u.openChannel n = true ↔ 4000 ≤ w.pullUp.toNat ∧ w.pullDown.toNat ≤ 95)) ∧
      (∀ n, n < 8 → u.validChannel n = !u.openChannel n) ∧
      (∀ n, n < 8 → u.openChannel n = false → u.code n = (sweepCode samples n).toNat) ∧
      (∀ n, n < 8 → u.sweeper.selfCheckWord.getLsbD n = u.openChannel n) ∧
      (u.sweeper.selfCheckWord.getLsbD 8 = true ↔
        s.isTruck = true ∧ u.openChannel 4 = false ∧ s.config.loweredThreshold < u.code 4) ∧
      u.sweeper.selfCheckWord >>> 9 = 0 ∧
      ((∃ n, n < 5 ∧ u.openChannel n = true ∧ (s.isTruck = true ∨ n ≤ 1)) → u.port = s.port.raise .selfcheckFail) ∧
      ((∀ n, n < 5 → u.openChannel n = true → s.isTruck = false ∧ 2 ≤ n) → u.port = s.port) ∧
      (s.isTruck = true → u.openChannel 4 = true →
        u.panto = { s.panto.enter .faulted with holdDuty := s.config.holdStart }) ∧
      (s.isTruck = true → u.sweeper.selfCheckWord.getLsbD 8 = true → u.panto = { s.panto.enter .lowering with
        holdDuty := s.config.holdStart, lowerTimer := some (max s.clock t + 1000 * s.config.lowerTimeout) }) ∧
      (s.isTruck = true → u.openChannel 4 = false → u.sweeper.selfCheckWord.getLsbD 8 = false →
        u.panto = { s.panto with holdDuty := s.config.holdStart }) ∧
      (s.isTruck = false → u.panto = s.panto) ∧
      u.feeder = (if s.isTruck = false ∧ u.openChannel 0 = false ∧ u.openChannel 1 = false ∧
          s.config.capacity + s.config.capacity / 16 < 4 * u.code 0
        then { s.feeder with overload := .over, overTimer := some (max s.clock t + 200000) } else s.feeder) ∧
      u.sweeper = { s.sweeper with
        published := u.sweeper.published, openFlags := u.sweeper.openFlags, selfCheckWord := u.sweeper.selfCheckWord
        conversion := .sweep (max s.clock t), pairSamples := Vector.replicate 18 none } ∧
      u = { s with
        startup := .ready, clock := max s.clock t, sweeper := u.sweeper, port := u.port, panto := u.panto, feeder := u.feeder
        share := { s.share with cycleTimer := some (max s.clock t + 10000 * s.config.period) } })

/-- WARM_RESET, WARM_RESET_TAKEN and WARM_N_FALL (R75, R118, R137, R150, R182, R183): the command answers OK and waits for the rise of
CS_N, which discards what is left of the response; the reset is one event in every block, with what R182 keeps and what it clears.
The model's choices in it: a pulse that runs when the reset finds the period value 0 is cut, so LSTB is low (notes/assumptions/19.md); a
fall of WARM_N leaves a WARM RESET command waiting for CS_N (25.md) and the response in its buffer (31.md). -/
def Obligations.WarmResetKeepsAndClears : Prop :=
  ∀ (t : Nat) (i : Instr) (s : State), s.startup = .ready →
    (exec (.warmReset t) s = .next { s with
      clock := max s.clock t, port := { s.port with response := [0x00], warmResetRequested := true } }) ∧
    (s.port.warmResetRequested = false → exec (.warmResetTaken t) s = .next { s with clock := max s.clock t }) ∧
    (i = .warmNFall t ∨ i = .warmResetTaken t ∧ s.port.warmResetRequested = true →
      let now := max s.clock t
      let strobes := 0 < s.lim.periodValue ∧ s.config.strobeMode ≠ .off
      let rested (p : Pantograph) : Pantograph := { p with history := [], imbalanceEpisode := false }
      ∃ u, exec i s = .next u ∧
        u.share = {
          phase := .offline, requestedDemand := 0, demandClass := 0, manualCap := 4095, budget := .empty
          cycleTimer := some (now + 10000 * s.config.period), listenTimer := none, overflowTimer := none
          crossSub := .none, crossTimer := none, collapseTimer := none, episode := false } ∧
        u.lim = { s.lim with
          limit := 0, lastTarget := 0, periodValue := 0, markedValue := 0, applicationMark := false, limitOut := false
          lstbOut := u.lim.lstbOut, lstbUntil := u.lim.lstbUntil } ∧
        (strobes → u.lim.lstbOut = true ∧ u.lim.lstbUntil = now + 100) ∧ (¬ strobes → u.lim.lstbOut = false) ∧
        (s.panto.state = .contact → u.panto = rested { s.panto.enter .unloading with
          unloadTimer := some (now + 1000 * s.config.unloadTimeout) }) ∧
        (s.panto.state = .raising → u.panto = rested { s.panto.enter .lowering with
          lowerTimer := some (now + 1000 * s.config.lowerTimeout) }) ∧
        (s.panto.state = .unloading → u.panto = rested { s.panto with lossTimer := none }) ∧
        (s.panto.state = .lowering ∨ s.panto.state = .lowered ∨ s.panto.state = .faulted → u.panto = rested s.panto) ∧
        u.link = { s.link with
          periodic := none, shed := none, depart := none, departFirst := false, transmitter := u.link.transmitter } ∧
        (∀ f since, s.link.transmitter = .sending f since → u.link.transmitter = s.link.transmitter) ∧
        ((∀ f since, s.link.transmitter ≠ .sending f since) → u.link.transmitter = .idle) ∧
        u.sweeper = { s.sweeper with
          conversion := .sweep now, abortCount := 0, pairRequest := none, heldSample := none
          pairSamples := Vector.replicate 18 none } ∧
        (i = .warmNFall t → u.port = { s.port with flags := 0, fresh := 0 }) ∧
        (i = .warmResetTaken t →
          u.port = { s.port with flags := 0, fresh := 0, warmResetRequested := false, response := [] }) ∧
        u = { s with
          clock := now, share := u.share, lim := u.lim, panto := u.panto, link := u.link, sweeper := u.sweeper, port := u.port
          peers := [], holds := [], arc := { pending := [], log := [], storm := false, resetAt := some now }
          feeder := {
            overload := .normal, overTimer := none, releaseTimer := none, repeatTimer := none, repeatLapsed := false } })
end

