-- ==== Sys2Proof/Laws/State.lean ====
section
/-! SUPPORT. What each record update leaves and what it writes: one lemma per field per update, each true by `rfl`. -/

namespace Sys2Proof.Machine

/-! ### State.takenAt -/

@[simp] theorem State.takenAt_startup (t : Nat) (s : State) : (s.takenAt t).startup = s.startup := rfl
@[simp] theorem State.takenAt_config (t : Nat) (s : State) : (s.takenAt t).config = s.config := rfl
@[simp] theorem State.takenAt_loadResult (t : Nat) (s : State) : (s.takenAt t).loadResult = s.loadResult := rfl
@[simp] theorem State.takenAt_share (t : Nat) (s : State) : (s.takenAt t).share = s.share := rfl
@[simp] theorem State.takenAt_peers (t : Nat) (s : State) : (s.takenAt t).peers = s.peers := rfl
@[simp] theorem State.takenAt_holds (t : Nat) (s : State) : (s.takenAt t).holds = s.holds := rfl
@[simp] theorem State.takenAt_link (t : Nat) (s : State) : (s.takenAt t).link = s.link := rfl
@[simp] theorem State.takenAt_lim (t : Nat) (s : State) : (s.takenAt t).lim = s.lim := rfl
@[simp] theorem State.takenAt_panto (t : Nat) (s : State) : (s.takenAt t).panto = s.panto := rfl
@[simp] theorem State.takenAt_sweeper (t : Nat) (s : State) : (s.takenAt t).sweeper = s.sweeper := rfl
@[simp] theorem State.takenAt_arc (t : Nat) (s : State) : (s.takenAt t).arc = s.arc := rfl
@[simp] theorem State.takenAt_feeder (t : Nat) (s : State) : (s.takenAt t).feeder = s.feeder := rfl
@[simp] theorem State.takenAt_port (t : Nat) (s : State) : (s.takenAt t).port = s.port := rfl
@[simp] theorem State.takenAt_pending (t : Nat) (s : State) : (s.takenAt t).pending = s.pending := rfl

/-! ### State.answer -/

@[simp] theorem State.answer_startup (s : State) (st : Status) (d : List Byte) : (s.answer st d).startup = s.startup := rfl
@[simp] theorem State.answer_clock (s : State) (st : Status) (d : List Byte) : (s.answer st d).clock = s.clock := rfl
@[simp] theorem State.answer_config (s : State) (st : Status) (d : List Byte) : (s.answer st d).config = s.config := rfl
@[simp] theorem State.answer_loadResult (s : State) (st : Status) (d : List Byte) : (s.answer st d).loadResult = s.loadResult := rfl
@[simp] theorem State.answer_share (s : State) (st : Status) (d : List Byte) : (s.answer st d).share = s.share := rfl
@[simp] theorem State.answer_peers (s : State) (st : Status) (d : List Byte) : (s.answer st d).peers = s.peers := rfl
@[simp] theorem State.answer_holds (s : State) (st : Status) (d : List Byte) : (s.answer st d).holds = s.holds := rfl
@[simp] theorem State.answer_link (s : State) (st : Status) (d : List Byte) : (s.answer st d).link = s.link := rfl
@[simp] theorem State.answer_lim (s : State) (st : Status) (d : List Byte) : (s.answer st d).lim = s.lim := rfl
@[simp] theorem State.answer_panto (s : State) (st : Status) (d : List Byte) : (s.answer st d).panto = s.panto := rfl
@[simp] theorem State.answer_sweeper (s : State) (st : Status) (d : List Byte) : (s.answer st d).sweeper = s.sweeper := rfl
@[simp] theorem State.answer_arc (s : State) (st : Status) (d : List Byte) : (s.answer st d).arc = s.arc := rfl
@[simp] theorem State.answer_feeder (s : State) (st : Status) (d : List Byte) : (s.answer st d).feeder = s.feeder := rfl
@[simp] theorem State.answer_pending (s : State) (st : Status) (d : List Byte) : (s.answer st d).pending = s.pending := rfl

/-! ### State.answerOk -/

@[simp] theorem State.answerOk_startup (s : State) : s.answerOk.startup = s.startup := rfl
@[simp] theorem State.answerOk_clock (s : State) : s.answerOk.clock = s.clock := rfl
@[simp] theorem State.answerOk_config (s : State) : s.answerOk.config = s.config := rfl
@[simp] theorem State.answerOk_loadResult (s : State) : s.answerOk.loadResult = s.loadResult := rfl
@[simp] theorem State.answerOk_share (s : State) : s.answerOk.share = s.share := rfl
@[simp] theorem State.answerOk_peers (s : State) : s.answerOk.peers = s.peers := rfl
@[simp] theorem State.answerOk_holds (s : State) : s.answerOk.holds = s.holds := rfl
@[simp] theorem State.answerOk_link (s : State) : s.answerOk.link = s.link := rfl
@[simp] theorem State.answerOk_lim (s : State) : s.answerOk.lim = s.lim := rfl
@[simp] theorem State.answerOk_panto (s : State) : s.answerOk.panto = s.panto := rfl
@[simp] theorem State.answerOk_sweeper (s : State) : s.answerOk.sweeper = s.sweeper := rfl
@[simp] theorem State.answerOk_arc (s : State) : s.answerOk.arc = s.arc := rfl
@[simp] theorem State.answerOk_feeder (s : State) : s.answerOk.feeder = s.feeder := rfl
@[simp] theorem State.answerOk_pending (s : State) : s.answerOk.pending = s.pending := rfl

/-! ### State.discardResponse -/

@[simp] theorem State.discardResponse_startup (s : State) : s.discardResponse.startup = s.startup := rfl
@[simp] theorem State.discardResponse_clock (s : State) : s.discardResponse.clock = s.clock := rfl
@[simp] theorem State.discardResponse_config (s : State) : s.discardResponse.config = s.config := rfl
@[simp] theorem State.discardResponse_loadResult (s : State) : s.discardResponse.loadResult = s.loadResult := rfl
@[simp] theorem State.discardResponse_share (s : State) : s.discardResponse.share = s.share := rfl
@[simp] theorem State.discardResponse_peers (s : State) : s.discardResponse.peers = s.peers := rfl
@[simp] theorem State.discardResponse_holds (s : State) : s.discardResponse.holds = s.holds := rfl
@[simp] theorem State.discardResponse_link (s : State) : s.discardResponse.link = s.link := rfl
@[simp] theorem State.discardResponse_lim (s : State) : s.discardResponse.lim = s.lim := rfl
@[simp] theorem State.discardResponse_panto (s : State) : s.discardResponse.panto = s.panto := rfl
@[simp] theorem State.discardResponse_sweeper (s : State) : s.discardResponse.sweeper = s.sweeper := rfl
@[simp] theorem State.discardResponse_arc (s : State) : s.discardResponse.arc = s.arc := rfl
@[simp] theorem State.discardResponse_feeder (s : State) : s.discardResponse.feeder = s.feeder := rfl
@[simp] theorem State.discardResponse_pending (s : State) : s.discardResponse.pending = s.pending := rfl
@[simp] theorem State.discardResponse_port (s : State) : s.discardResponse.port = { s.port with response := [] } := rfl

/-! ### CarrierLink.heard -/

@[simp] theorem CarrierLink.heard_assembler (l : CarrierLink) (v : List Nat) : (l.heard v).assembler = .waiting := rfl
@[simp] theorem CarrierLink.heard_listenFrom (l : CarrierLink) (v : List Nat) : (l.heard v).listenFrom = v.getLastD 0 + 260 := rfl
@[simp] theorem CarrierLink.heard_periodic (l : CarrierLink) (v : List Nat) : (l.heard v).periodic = l.periodic := rfl
@[simp] theorem CarrierLink.heard_shed (l : CarrierLink) (v : List Nat) : (l.heard v).shed = l.shed := rfl
@[simp] theorem CarrierLink.heard_depart (l : CarrierLink) (v : List Nat) : (l.heard v).depart = l.depart := rfl
@[simp] theorem CarrierLink.heard_departFirst (l : CarrierLink) (v : List Nat) : (l.heard v).departFirst = l.departFirst := rfl
@[simp] theorem CarrierLink.heard_transmitter (l : CarrierLink) (v : List Nat) : (l.heard v).transmitter = l.transmitter := rfl
@[simp] theorem CarrierLink.heard_lfsr (l : CarrierLink) (v : List Nat) : (l.heard v).lfsr = l.lfsr := rfl
@[simp] theorem CarrierLink.heard_txEnable (l : CarrierLink) (v : List Nat) : (l.heard v).txEnable = l.txEnable := rfl

/-! ### State.raise -/

@[simp] theorem State.raise_startup (s : State) (e : Event) : (s.raise e).startup = s.startup := rfl
@[simp] theorem State.raise_clock (s : State) (e : Event) : (s.raise e).clock = s.clock := rfl
@[simp] theorem State.raise_config (s : State) (e : Event) : (s.raise e).config = s.config := rfl
@[simp] theorem State.raise_loadResult (s : State) (e : Event) : (s.raise e).loadResult = s.loadResult := rfl
@[simp] theorem State.raise_share (s : State) (e : Event) : (s.raise e).share = s.share := rfl
@[simp] theorem State.raise_peers (s : State) (e : Event) : (s.raise e).peers = s.peers := rfl
@[simp] theorem State.raise_holds (s : State) (e : Event) : (s.raise e).holds = s.holds := rfl
@[simp] theorem State.raise_link (s : State) (e : Event) : (s.raise e).link = s.link := rfl
@[simp] theorem State.raise_lim (s : State) (e : Event) : (s.raise e).lim = s.lim := rfl
@[simp] theorem State.raise_panto (s : State) (e : Event) : (s.raise e).panto = s.panto := rfl
@[simp] theorem State.raise_sweeper (s : State) (e : Event) : (s.raise e).sweeper = s.sweeper := rfl
@[simp] theorem State.raise_arc (s : State) (e : Event) : (s.raise e).arc = s.arc := rfl
@[simp] theorem State.raise_feeder (s : State) (e : Event) : (s.raise e).feeder = s.feeder := rfl
@[simp] theorem State.raise_pending (s : State) (e : Event) : (s.raise e).pending = s.pending := rfl

/-! ### State.strobe -/

@[simp] theorem State.strobe_startup (s : State) : s.strobe.startup = s.startup := rfl
@[simp] theorem State.strobe_clock (s : State) : s.strobe.clock = s.clock := rfl
@[simp] theorem State.strobe_config (s : State) : s.strobe.config = s.config := rfl
@[simp] theorem State.strobe_loadResult (s : State) : s.strobe.loadResult = s.loadResult := rfl
@[simp] theorem State.strobe_share (s : State) : s.strobe.share = s.share := rfl
@[simp] theorem State.strobe_peers (s : State) : s.strobe.peers = s.peers := rfl
@[simp] theorem State.strobe_holds (s : State) : s.strobe.holds = s.holds := rfl
@[simp] theorem State.strobe_link (s : State) : s.strobe.link = s.link := rfl
@[simp] theorem State.strobe_panto (s : State) : s.strobe.panto = s.panto := rfl
@[simp] theorem State.strobe_sweeper (s : State) : s.strobe.sweeper = s.sweeper := rfl
@[simp] theorem State.strobe_arc (s : State) : s.strobe.arc = s.arc := rfl
@[simp] theorem State.strobe_feeder (s : State) : s.strobe.feeder = s.feeder := rfl
@[simp] theorem State.strobe_port (s : State) : s.strobe.port = s.port := rfl
@[simp] theorem State.strobe_pending (s : State) : s.strobe.pending = s.pending := rfl

/-! ### State.beginLimitPeriod -/

@[simp] theorem State.beginLimitPeriod_startup (s : State) : s.beginLimitPeriod.startup = s.startup := rfl
@[simp] theorem State.beginLimitPeriod_clock (s : State) : s.beginLimitPeriod.clock = s.clock := rfl
@[simp] theorem State.beginLimitPeriod_config (s : State) : s.beginLimitPeriod.config = s.config := rfl
@[simp] theorem State.beginLimitPeriod_loadResult (s : State) : s.beginLimitPeriod.loadResult = s.loadResult := rfl
@[simp] theorem State.beginLimitPeriod_share (s : State) : s.beginLimitPeriod.share = s.share := rfl
@[simp] theorem State.beginLimitPeriod_peers (s : State) : s.beginLimitPeriod.peers = s.peers := rfl
@[simp] theorem State.beginLimitPeriod_holds (s : State) : s.beginLimitPeriod.holds = s.holds := rfl
@[simp] theorem State.beginLimitPeriod_link (s : State) : s.beginLimitPeriod.link = s.link := rfl
@[simp] theorem State.beginLimitPeriod_panto (s : State) : s.beginLimitPeriod.panto = s.panto := rfl
@[simp] theorem State.beginLimitPeriod_sweeper (s : State) : s.beginLimitPeriod.sweeper = s.sweeper := rfl
@[simp] theorem State.beginLimitPeriod_arc (s : State) : s.beginLimitPeriod.arc = s.arc := rfl
@[simp] theorem State.beginLimitPeriod_feeder (s : State) : s.beginLimitPeriod.feeder = s.feeder := rfl
@[simp] theorem State.beginLimitPeriod_port (s : State) : s.beginLimitPeriod.port = s.port := rfl
@[simp] theorem State.beginLimitPeriod_pending (s : State) : s.beginLimitPeriod.pending = s.pending := rfl

/-! ### State.warmResetLimit -/

@[simp] theorem State.warmResetLimit_startup (s : State) : s.warmResetLimit.startup = s.startup := rfl
@[simp] theorem State.warmResetLimit_clock (s : State) : s.warmResetLimit.clock = s.clock := rfl
@[simp] theorem State.warmResetLimit_config (s : State) : s.warmResetLimit.config = s.config := rfl
@[simp] theorem State.warmResetLimit_loadResult (s : State) : s.warmResetLimit.loadResult = s.loadResult := rfl
@[simp] theorem State.warmResetLimit_share (s : State) : s.warmResetLimit.share = s.share := rfl
@[simp] theorem State.warmResetLimit_peers (s : State) : s.warmResetLimit.peers = s.peers := rfl
@[simp] theorem State.warmResetLimit_holds (s : State) : s.warmResetLimit.holds = s.holds := rfl
@[simp] theorem State.warmResetLimit_link (s : State) : s.warmResetLimit.link = s.link := rfl
@[simp] theorem State.warmResetLimit_panto (s : State) : s.warmResetLimit.panto = s.panto := rfl
@[simp] theorem State.warmResetLimit_sweeper (s : State) : s.warmResetLimit.sweeper = s.sweeper := rfl
@[simp] theorem State.warmResetLimit_arc (s : State) : s.warmResetLimit.arc = s.arc := rfl
@[simp] theorem State.warmResetLimit_feeder (s : State) : s.warmResetLimit.feeder = s.feeder := rfl
@[simp] theorem State.warmResetLimit_port (s : State) : s.warmResetLimit.port = s.port := rfl
@[simp] theorem State.warmResetLimit_pending (s : State) : s.warmResetLimit.pending = s.pending := rfl

/-! ### State.emptyPeriodic -/

@[simp] theorem State.emptyPeriodic_startup (s : State) : s.emptyPeriodic.startup = s.startup := rfl
@[simp] theorem State.emptyPeriodic_clock (s : State) : s.emptyPeriodic.clock = s.clock := rfl
@[simp] theorem State.emptyPeriodic_config (s : State) : s.emptyPeriodic.config = s.config := rfl
@[simp] theorem State.emptyPeriodic_loadResult (s : State) : s.emptyPeriodic.loadResult = s.loadResult := rfl
@[simp] theorem State.emptyPeriodic_share (s : State) : s.emptyPeriodic.share = s.share := rfl
@[simp] theorem State.emptyPeriodic_peers (s : State) : s.emptyPeriodic.peers = s.peers := rfl
@[simp] theorem State.emptyPeriodic_holds (s : State) : s.emptyPeriodic.holds = s.holds := rfl
@[simp] theorem State.emptyPeriodic_lim (s : State) : s.emptyPeriodic.lim = s.lim := rfl
@[simp] theorem State.emptyPeriodic_panto (s : State) : s.emptyPeriodic.panto = s.panto := rfl
@[simp] theorem State.emptyPeriodic_sweeper (s : State) : s.emptyPeriodic.sweeper = s.sweeper := rfl
@[simp] theorem State.emptyPeriodic_arc (s : State) : s.emptyPeriodic.arc = s.arc := rfl
@[simp] theorem State.emptyPeriodic_feeder (s : State) : s.emptyPeriodic.feeder = s.feeder := rfl
@[simp] theorem State.emptyPeriodic_port (s : State) : s.emptyPeriodic.port = s.port := rfl
@[simp] theorem State.emptyPeriodic_pending (s : State) : s.emptyPeriodic.pending = s.pending := rfl

/-! ### State.startSending -/

@[simp] theorem State.startSending_startup (s : State) (k : Slot) (q : Queued) : (s.startSending k q).startup = s.startup := rfl
@[simp] theorem State.startSending_clock (s : State) (k : Slot) (q : Queued) : (s.startSending k q).clock = s.clock := rfl
@[simp] theorem State.startSending_config (s : State) (k : Slot) (q : Queued) : (s.startSending k q).config = s.config := rfl
@[simp] theorem State.startSending_loadResult (s : State) (k : Slot) (q : Queued) : (s.startSending k q).loadResult = s.loadResult := rfl
@[simp] theorem State.startSending_share (s : State) (k : Slot) (q : Queued) : (s.startSending k q).share = s.share := rfl
@[simp] theorem State.startSending_peers (s : State) (k : Slot) (q : Queued) : (s.startSending k q).peers = s.peers := rfl
@[simp] theorem State.startSending_holds (s : State) (k : Slot) (q : Queued) : (s.startSending k q).holds = s.holds := rfl
@[simp] theorem State.startSending_lim (s : State) (k : Slot) (q : Queued) : (s.startSending k q).lim = s.lim := rfl
@[simp] theorem State.startSending_panto (s : State) (k : Slot) (q : Queued) : (s.startSending k q).panto = s.panto := rfl
@[simp] theorem State.startSending_sweeper (s : State) (k : Slot) (q : Queued) : (s.startSending k q).sweeper = s.sweeper := rfl
@[simp] theorem State.startSending_arc (s : State) (k : Slot) (q : Queued) : (s.startSending k q).arc = s.arc := rfl
@[simp] theorem State.startSending_feeder (s : State) (k : Slot) (q : Queued) : (s.startSending k q).feeder = s.feeder := rfl
@[simp] theorem State.startSending_port (s : State) (k : Slot) (q : Queued) : (s.startSending k q).port = s.port := rfl
@[simp] theorem State.startSending_pending (s : State) (k : Slot) (q : Queued) : (s.startSending k q).pending = s.pending := rfl

/-! ### State.enterListen -/

@[simp] theorem State.enterListen_startup (s : State) : s.enterListen.startup = s.startup := rfl
@[simp] theorem State.enterListen_clock (s : State) : s.enterListen.clock = s.clock := rfl
@[simp] theorem State.enterListen_config (s : State) : s.enterListen.config = s.config := rfl
@[simp] theorem State.enterListen_loadResult (s : State) : s.enterListen.loadResult = s.loadResult := rfl
@[simp] theorem State.enterListen_peers (s : State) : s.enterListen.peers = s.peers := rfl
@[simp] theorem State.enterListen_holds (s : State) : s.enterListen.holds = s.holds := rfl
@[simp] theorem State.enterListen_link (s : State) : s.enterListen.link = s.link := rfl
@[simp] theorem State.enterListen_lim (s : State) : s.enterListen.lim = s.lim := rfl
@[simp] theorem State.enterListen_panto (s : State) : s.enterListen.panto = s.panto := rfl
@[simp] theorem State.enterListen_sweeper (s : State) : s.enterListen.sweeper = s.sweeper := rfl
@[simp] theorem State.enterListen_arc (s : State) : s.enterListen.arc = s.arc := rfl
@[simp] theorem State.enterListen_feeder (s : State) : s.enterListen.feeder = s.feeder := rfl
@[simp] theorem State.enterListen_port (s : State) : s.enterListen.port = s.port := rfl
@[simp] theorem State.enterListen_pending (s : State) : s.enterListen.pending = s.pending := rfl

/-! ### State.calmFeeder -/

@[simp] theorem State.calmFeeder_startup (s : State) : s.calmFeeder.startup = s.startup := rfl
@[simp] theorem State.calmFeeder_clock (s : State) : s.calmFeeder.clock = s.clock := rfl
@[simp] theorem State.calmFeeder_config (s : State) : s.calmFeeder.config = s.config := rfl
@[simp] theorem State.calmFeeder_loadResult (s : State) : s.calmFeeder.loadResult = s.loadResult := rfl
@[simp] theorem State.calmFeeder_share (s : State) : s.calmFeeder.share = s.share := rfl
@[simp] theorem State.calmFeeder_peers (s : State) : s.calmFeeder.peers = s.peers := rfl
@[simp] theorem State.calmFeeder_holds (s : State) : s.calmFeeder.holds = s.holds := rfl
@[simp] theorem State.calmFeeder_link (s : State) : s.calmFeeder.link = s.link := rfl
@[simp] theorem State.calmFeeder_lim (s : State) : s.calmFeeder.lim = s.lim := rfl
@[simp] theorem State.calmFeeder_panto (s : State) : s.calmFeeder.panto = s.panto := rfl
@[simp] theorem State.calmFeeder_sweeper (s : State) : s.calmFeeder.sweeper = s.sweeper := rfl
@[simp] theorem State.calmFeeder_arc (s : State) : s.calmFeeder.arc = s.arc := rfl
@[simp] theorem State.calmFeeder_port (s : State) : s.calmFeeder.port = s.port := rfl
@[simp] theorem State.calmFeeder_pending (s : State) : s.calmFeeder.pending = s.pending := rfl

/-! ### State.enterRaising -/

@[simp] theorem State.enterRaising_startup (s : State) : s.enterRaising.startup = s.startup := rfl
@[simp] theorem State.enterRaising_clock (s : State) : s.enterRaising.clock = s.clock := rfl
@[simp] theorem State.enterRaising_config (s : State) : s.enterRaising.config = s.config := rfl
@[simp] theorem State.enterRaising_loadResult (s : State) : s.enterRaising.loadResult = s.loadResult := rfl
@[simp] theorem State.enterRaising_share (s : State) : s.enterRaising.share = s.share := rfl
@[simp] theorem State.enterRaising_peers (s : State) : s.enterRaising.peers = s.peers := rfl
@[simp] theorem State.enterRaising_holds (s : State) : s.enterRaising.holds = s.holds := rfl
@[simp] theorem State.enterRaising_link (s : State) : s.enterRaising.link = s.link := rfl
@[simp] theorem State.enterRaising_lim (s : State) : s.enterRaising.lim = s.lim := rfl
@[simp] theorem State.enterRaising_sweeper (s : State) : s.enterRaising.sweeper = s.sweeper := rfl
@[simp] theorem State.enterRaising_arc (s : State) : s.enterRaising.arc = s.arc := rfl
@[simp] theorem State.enterRaising_feeder (s : State) : s.enterRaising.feeder = s.feeder := rfl
@[simp] theorem State.enterRaising_port (s : State) : s.enterRaising.port = s.port := rfl
@[simp] theorem State.enterRaising_pending (s : State) : s.enterRaising.pending = s.pending := rfl

/-! ### State.enterLowering -/

@[simp] theorem State.enterLowering_startup (s : State) : s.enterLowering.startup = s.startup := rfl
@[simp] theorem State.enterLowering_clock (s : State) : s.enterLowering.clock = s.clock := rfl
@[simp] theorem State.enterLowering_config (s : State) : s.enterLowering.config = s.config := rfl
@[simp] theorem State.enterLowering_loadResult (s : State) : s.enterLowering.loadResult = s.loadResult := rfl
@[simp] theorem State.enterLowering_share (s : State) : s.enterLowering.share = s.share := rfl
@[simp] theorem State.enterLowering_peers (s : State) : s.enterLowering.peers = s.peers := rfl
@[simp] theorem State.enterLowering_holds (s : State) : s.enterLowering.holds = s.holds := rfl
@[simp] theorem State.enterLowering_link (s : State) : s.enterLowering.link = s.link := rfl
@[simp] theorem State.enterLowering_lim (s : State) : s.enterLowering.lim = s.lim := rfl
@[simp] theorem State.enterLowering_sweeper (s : State) : s.enterLowering.sweeper = s.sweeper := rfl
@[simp] theorem State.enterLowering_arc (s : State) : s.enterLowering.arc = s.arc := rfl
@[simp] theorem State.enterLowering_feeder (s : State) : s.enterLowering.feeder = s.feeder := rfl
@[simp] theorem State.enterLowering_port (s : State) : s.enterLowering.port = s.port := rfl
@[simp] theorem State.enterLowering_pending (s : State) : s.enterLowering.pending = s.pending := rfl

/-! ### State.enterUnloading -/

@[simp] theorem State.enterUnloading_startup (s : State) (l : Option Nat) : (s.enterUnloading l).startup = s.startup := rfl
@[simp] theorem State.enterUnloading_clock (s : State) (l : Option Nat) : (s.enterUnloading l).clock = s.clock := rfl
@[simp] theorem State.enterUnloading_config (s : State) (l : Option Nat) : (s.enterUnloading l).config = s.config := rfl
@[simp] theorem State.enterUnloading_loadResult (s : State) (l : Option Nat) : (s.enterUnloading l).loadResult = s.loadResult := rfl
@[simp] theorem State.enterUnloading_share (s : State) (l : Option Nat) : (s.enterUnloading l).share = s.share := rfl
@[simp] theorem State.enterUnloading_peers (s : State) (l : Option Nat) : (s.enterUnloading l).peers = s.peers := rfl
@[simp] theorem State.enterUnloading_holds (s : State) (l : Option Nat) : (s.enterUnloading l).holds = s.holds := rfl
@[simp] theorem State.enterUnloading_link (s : State) (l : Option Nat) : (s.enterUnloading l).link = s.link := rfl
@[simp] theorem State.enterUnloading_lim (s : State) (l : Option Nat) : (s.enterUnloading l).lim = s.lim := rfl
@[simp] theorem State.enterUnloading_sweeper (s : State) (l : Option Nat) : (s.enterUnloading l).sweeper = s.sweeper := rfl
@[simp] theorem State.enterUnloading_arc (s : State) (l : Option Nat) : (s.enterUnloading l).arc = s.arc := rfl
@[simp] theorem State.enterUnloading_feeder (s : State) (l : Option Nat) : (s.enterUnloading l).feeder = s.feeder := rfl
@[simp] theorem State.enterUnloading_port (s : State) (l : Option Nat) : (s.enterUnloading l).port = s.port := rfl
@[simp] theorem State.enterUnloading_pending (s : State) (l : Option Nat) : (s.enterUnloading l).pending = s.pending := rfl

/-! ### State.rearmCycle -/

@[simp] theorem State.rearmCycle_startup (s : State) : s.rearmCycle.startup = s.startup := rfl
@[simp] theorem State.rearmCycle_clock (s : State) : s.rearmCycle.clock = s.clock := rfl
@[simp] theorem State.rearmCycle_config (s : State) : s.rearmCycle.config = s.config := rfl
@[simp] theorem State.rearmCycle_loadResult (s : State) : s.rearmCycle.loadResult = s.loadResult := rfl
@[simp] theorem State.rearmCycle_peers (s : State) : s.rearmCycle.peers = s.peers := rfl
@[simp] theorem State.rearmCycle_holds (s : State) : s.rearmCycle.holds = s.holds := rfl
@[simp] theorem State.rearmCycle_link (s : State) : s.rearmCycle.link = s.link := rfl
@[simp] theorem State.rearmCycle_lim (s : State) : s.rearmCycle.lim = s.lim := rfl
@[simp] theorem State.rearmCycle_panto (s : State) : s.rearmCycle.panto = s.panto := rfl
@[simp] theorem State.rearmCycle_sweeper (s : State) : s.rearmCycle.sweeper = s.sweeper := rfl
@[simp] theorem State.rearmCycle_arc (s : State) : s.rearmCycle.arc = s.arc := rfl
@[simp] theorem State.rearmCycle_feeder (s : State) : s.rearmCycle.feeder = s.feeder := rfl
@[simp] theorem State.rearmCycle_port (s : State) : s.rearmCycle.port = s.port := rfl
@[simp] theorem State.rearmCycle_pending (s : State) : s.rearmCycle.pending = s.pending := rfl

/-! ### State.warmResetShare -/

@[simp] theorem State.warmResetShare_startup (s : State) : s.warmResetShare.startup = s.startup := rfl
@[simp] theorem State.warmResetShare_clock (s : State) : s.warmResetShare.clock = s.clock := rfl
@[simp] theorem State.warmResetShare_config (s : State) : s.warmResetShare.config = s.config := rfl
@[simp] theorem State.warmResetShare_loadResult (s : State) : s.warmResetShare.loadResult = s.loadResult := rfl
@[simp] theorem State.warmResetShare_peers (s : State) : s.warmResetShare.peers = s.peers := rfl
@[simp] theorem State.warmResetShare_holds (s : State) : s.warmResetShare.holds = s.holds := rfl
@[simp] theorem State.warmResetShare_link (s : State) : s.warmResetShare.link = s.link := rfl
@[simp] theorem State.warmResetShare_lim (s : State) : s.warmResetShare.lim = s.lim := rfl
@[simp] theorem State.warmResetShare_panto (s : State) : s.warmResetShare.panto = s.panto := rfl
@[simp] theorem State.warmResetShare_sweeper (s : State) : s.warmResetShare.sweeper = s.sweeper := rfl
@[simp] theorem State.warmResetShare_arc (s : State) : s.warmResetShare.arc = s.arc := rfl
@[simp] theorem State.warmResetShare_feeder (s : State) : s.warmResetShare.feeder = s.feeder := rfl
@[simp] theorem State.warmResetShare_port (s : State) : s.warmResetShare.port = s.port := rfl
@[simp] theorem State.warmResetShare_pending (s : State) : s.warmResetShare.pending = s.pending := rfl

/-! ### What the updates write -/

@[simp] theorem Sweeper.startSweep_published (w : Sweeper) (c : Nat) : (w.startSweep c).published = w.published := rfl
@[simp] theorem Sweeper.startSweep_openFlags (w : Sweeper) (c : Nat) : (w.startSweep c).openFlags = w.openFlags := rfl
@[simp] theorem Sweeper.startSweep_sweepCounter (w : Sweeper) (c : Nat) : (w.startSweep c).sweepCounter = w.sweepCounter := rfl
@[simp] theorem Sweeper.startSweep_rotation (w : Sweeper) (c : Nat) : (w.startSweep c).rotation = w.rotation := rfl
@[simp] theorem Sweeper.startSweep_testPending (w : Sweeper) (c : Nat) : (w.startSweep c).testPending = w.testPending := rfl
@[simp] theorem Sweeper.startSweep_abortCount (w : Sweeper) (c : Nat) : (w.startSweep c).abortCount = w.abortCount := rfl
@[simp] theorem Sweeper.startSweep_pairRequest (w : Sweeper) (c : Nat) : (w.startSweep c).pairRequest = w.pairRequest := rfl
@[simp] theorem Sweeper.startSweep_heldSample (w : Sweeper) (c : Nat) : (w.startSweep c).heldSample = w.heldSample := rfl
@[simp] theorem Sweeper.startSweep_selfCheckWord (w : Sweeper) (c : Nat) : (w.startSweep c).selfCheckWord = w.selfCheckWord := rfl
@[simp] theorem Sweeper.startSweep_conversion (w : Sweeper) (c : Nat) : (w.startSweep c).conversion = .sweep c := rfl
@[simp] theorem Sweeper.startSweep_pairSamples (w : Sweeper) (c : Nat) : (w.startSweep c).pairSamples = noSamples := rfl
@[simp] theorem Sweeper.keepSample_conversion (w : Sweeper) (k : Nat) (v : Code) : (w.keepSample k v).conversion = w.conversion := rfl
@[simp] theorem Sweeper.keepSample_published (w : Sweeper) (k : Nat) (v : Code) : (w.keepSample k v).published = w.published := rfl
@[simp] theorem Sweeper.keepSample_openFlags (w : Sweeper) (k : Nat) (v : Code) : (w.keepSample k v).openFlags = w.openFlags := rfl
@[simp] theorem Sweeper.keepSample_sweepCounter (w : Sweeper) (k : Nat) (v : Code) : (w.keepSample k v).sweepCounter = w.sweepCounter := rfl
@[simp] theorem Sweeper.keepSample_rotation (w : Sweeper) (k : Nat) (v : Code) : (w.keepSample k v).rotation = w.rotation := rfl
@[simp] theorem Sweeper.keepSample_testPending (w : Sweeper) (k : Nat) (v : Code) : (w.keepSample k v).testPending = w.testPending := rfl
@[simp] theorem Sweeper.keepSample_abortCount (w : Sweeper) (k : Nat) (v : Code) : (w.keepSample k v).abortCount = w.abortCount := rfl
@[simp] theorem Sweeper.keepSample_pairRequest (w : Sweeper) (k : Nat) (v : Code) : (w.keepSample k v).pairRequest = w.pairRequest := rfl
@[simp] theorem Sweeper.keepSample_heldSample (w : Sweeper) (k : Nat) (v : Code) : (w.keepSample k v).heldSample = w.heldSample := rfl
@[simp] theorem Sweeper.keepSample_selfCheckWord (w : Sweeper) (k : Nat) (v : Code) : (w.keepSample k v).selfCheckWord = w.selfCheckWord := rfl
@[simp] theorem Sweeper.keepSample_pairSamples (w : Sweeper) (k : Nat) (v : Code) :
    (w.keepSample k v).pairSamples = w.pairSamples.setIfInBounds k (some v) := rfl
@[simp] theorem State.answer_response (s : State) (st : Status) (d : List Byte) : (s.answer st d).port.response = st.byte :: d := rfl
@[simp] theorem State.answer_flags (s : State) (st : Status) (d : List Byte) : (s.answer st d).port.flags = s.port.flags := rfl
@[simp] theorem State.answer_fresh (s : State) (st : Status) (d : List Byte) : (s.answer st d).port.fresh = s.port.fresh := rfl
@[simp] theorem State.answer_mask (s : State) (st : Status) (d : List Byte) : (s.answer st d).port.mask = s.port.mask := rfl
@[simp] theorem State.answer_warmResetRequested (s : State) (st : Status) (d : List Byte) : (s.answer st d).port.warmResetRequested = s.port.warmResetRequested := rfl
@[simp] theorem State.answerOk_port_eq (s : State) : s.answerOk.port = { s.port with response := [0x00] } := rfl
@[simp] theorem State.raise_port_eq (s : State) (e : Event) : (s.raise e).port = s.port.raise e := rfl
@[simp] theorem TruckPort.raise_flags (p : TruckPort) (e : Event) : (p.raise e).flags = p.flags ||| e.mask := rfl
@[simp] theorem TruckPort.raise_fresh (p : TruckPort) (e : Event) : (p.raise e).fresh = p.fresh ||| e.mask := rfl
@[simp] theorem TruckPort.raise_mask (p : TruckPort) (e : Event) : (p.raise e).mask = p.mask := rfl
@[simp] theorem TruckPort.raise_response (p : TruckPort) (e : Event) : (p.raise e).response = p.response := rfl
@[simp] theorem TruckPort.raise_warmResetRequested (p : TruckPort) (e : Event) : (p.raise e).warmResetRequested = p.warmResetRequested := rfl
@[simp] theorem State.strobe_limit (s : State) : s.strobe.lim.limit = s.lim.limit := rfl
@[simp] theorem State.strobe_lastTarget (s : State) : s.strobe.lim.lastTarget = s.lim.lastTarget := rfl
@[simp] theorem State.strobe_periodValue (s : State) : s.strobe.lim.periodValue = s.lim.periodValue := rfl
@[simp] theorem State.strobe_markedValue (s : State) : s.strobe.lim.markedValue = s.lim.periodValue := rfl
@[simp] theorem State.strobe_applicationMark (s : State) : s.strobe.lim.applicationMark = false := rfl
@[simp] theorem State.strobe_nextBoundary (s : State) : s.strobe.lim.nextBoundary = s.lim.nextBoundary := rfl
@[simp] theorem State.strobe_limitOut (s : State) : s.strobe.lim.limitOut = s.lim.limitOut := rfl
@[simp] theorem State.strobe_lstbOut (s : State) : s.strobe.lim.lstbOut = true := rfl
@[simp] theorem State.strobe_lstbUntil (s : State) : s.strobe.lim.lstbUntil = s.clock + strobeWidth := rfl
@[simp] theorem State.enterListen_share_eq (s : State) : s.enterListen.share = { s.share with phase := .listen, listenTimer := s.afterMs s.config.listenTime } := rfl
@[simp] theorem State.enterRaising_panto_eq (s : State) : s.enterRaising.panto = { s.panto.enter .raising with raiseTimer := s.afterMs s.config.raiseTimeout } := rfl
@[simp] theorem State.enterLowering_panto_eq (s : State) : s.enterLowering.panto = { s.panto.enter .lowering with lowerTimer := s.afterMs s.config.lowerTimeout } := rfl
@[simp] theorem State.enterUnloading_panto_eq (s : State) (l : Option Nat) : (s.enterUnloading l).panto =
    { s.panto.enter .unloading with lossTimer := l, unloadTimer := s.afterMs s.config.unloadTimeout } := rfl
@[simp] theorem State.calmFeeder_feeder_eq (s : State) : s.calmFeeder.feeder = .powerOn := rfl
@[simp] theorem Pantograph.enter_state (p : Pantograph) (p' : PantoState) : (p.enter p').state = p' := rfl
@[simp] theorem Pantograph.enter_holdDuty (p : Pantograph) (p' : PantoState) : (p.enter p').holdDuty = p.holdDuty := rfl
@[simp] theorem Pantograph.enter_raiseTimer (p : Pantograph) (p' : PantoState) : (p.enter p').raiseTimer = none := rfl
@[simp] theorem Pantograph.enter_qualTimer (p : Pantograph) (p' : PantoState) : (p.enter p').qualTimer = none := rfl
@[simp] theorem Pantograph.enter_lossTimer (p : Pantograph) (p' : PantoState) : (p.enter p').lossTimer = none := rfl
@[simp] theorem Pantograph.enter_imbalanceTimer (p : Pantograph) (p' : PantoState) : (p.enter p').imbalanceTimer = none := rfl
@[simp] theorem Pantograph.enter_unloadTimer (p : Pantograph) (p' : PantoState) : (p.enter p').unloadTimer = none := rfl
@[simp] theorem Pantograph.enter_lowerTimer (p : Pantograph) (p' : PantoState) : (p.enter p').lowerTimer = none := rfl
@[simp] theorem Pantograph.enter_history (p : Pantograph) (p' : PantoState) : (p.enter p').history = p.history := rfl
@[simp] theorem Pantograph.enter_imbalanceEpisode (p : Pantograph) (p' : PantoState) : (p.enter p').imbalanceEpisode = p.imbalanceEpisode := rfl
@[simp] theorem Pantograph.enter_dutyInForce (p : Pantograph) (p' : PantoState) : (p.enter p').dutyInForce = p.dutyInForce := rfl
@[simp] theorem Pantograph.enter_actDirOut (p : Pantograph) (p' : PantoState) : (p.enter p').actDirOut = p.actDirOut := rfl
@[simp] theorem Pantograph.enter_actPwmOut (p : Pantograph) (p' : PantoState) : (p.enter p').actPwmOut = p.actPwmOut := rfl
@[simp] theorem Pantograph.enter_nextBoundary (p : Pantograph) (p' : PantoState) : (p.enter p').nextBoundary = p.nextBoundary := rfl

/-! ### The views that the clock does not move -/

@[simp] theorem State.takenAt_isTruck (t : Nat) (s : State) : (s.takenAt t).isTruck = s.isTruck := rfl
@[simp] theorem State.takenAt_ownWeight (t : Nat) (s : State) : (s.takenAt t).ownWeight = s.ownWeight := rfl
@[simp] theorem State.takenAt_openChannel (t : Nat) (s : State) : (s.takenAt t).openChannel = s.openChannel := rfl
@[simp] theorem State.takenAt_validChannel (t : Nat) (s : State) : (s.takenAt t).validChannel = s.validChannel := rfl
@[simp] theorem State.takenAt_code (t : Nat) (s : State) : (s.takenAt t).code = s.code := rfl
@[simp] theorem State.takenAt_sensorFault (t : Nat) (s : State) : (s.takenAt t).sensorFault = s.sensorFault := rfl
@[simp] theorem State.takenAt_overflowStands (t : Nat) (s : State) : (s.takenAt t).overflowStands = s.overflowStands := rfl
@[simp] theorem State.takenAt_degradedStands (t : Nat) (s : State) : (s.takenAt t).degradedStands = s.degradedStands := rfl
@[simp] theorem State.takenAt_muted (t : Nat) (s : State) : (s.takenAt t).muted = s.muted := rfl
@[simp] theorem State.takenAt_mode (t : Nat) (s : State) : (s.takenAt t).mode = s.mode := rfl
@[simp] theorem State.takenAt_floorInForce (t : Nat) (s : State) : (s.takenAt t).floorInForce = s.floorInForce := rfl
@[simp] theorem State.takenAt_mtxen (t : Nat) (s : State) : (s.takenAt t).mtxen = s.mtxen := rfl
@[simp] theorem State.takenAt_linkTakes (t : Nat) (s : State) : (s.takenAt t).linkTakes = s.linkTakes := rfl
@[simp] theorem State.takenAt_feederCurrent (t : Nat) (s : State) : (s.takenAt t).feederCurrent = s.feederCurrent := rfl
@[simp] theorem State.takenAt_totalForce (t : Nat) (s : State) : (s.takenAt t).totalForce = s.totalForce := rfl
@[simp] theorem State.takenAt_forceCounted (t : Nat) (s : State) : (s.takenAt t).forceCounted = s.forceCounted := rfl

end Sys2Proof.Machine
end

