-- ==== Sys2Proof/Laws/Frames.lean ====
section
/-! SUPPORT. What each shared operation leaves alone: its unchanged fields as simp lemmas, and one frame equation. -/

namespace Sys2Proof.Machine

/-- Two states with equal fields are equal. -/
theorem State.eq_of_fields {s u : State} (h0 : s.startup = u.startup) (h1 : s.clock = u.clock) (h2 : s.config = u.config) (h3
  : s.loadResult = u.loadResult) (h4 : s.share = u.share) (h5 : s.peers = u.peers) (h6 : s.holds = u.holds) (h7 : s.link =
  u.link) (h8 : s.lim = u.lim) (h9 : s.panto = u.panto) (h10 : s.sweeper = u.sweeper) (h11 : s.arc = u.arc) (h12 : s.feeder =
  u.feeder) (h13 : s.port = u.port) (h14 : s.pending = u.pending) : s = u:= by
  cases s
  cases u
  simp_all

@[simp] theorem State.cutPeriod_fields (s : State) :
    s.cutPeriod.startup = s.startup ∧ s.cutPeriod.clock = s.clock ∧ s.cutPeriod.config = s.config ∧ s.cutPeriod.loadResult =
    s.loadResult ∧ s.cutPeriod.share = s.share ∧ s.cutPeriod.peers = s.peers ∧ s.cutPeriod.holds = s.holds ∧ s.cutPeriod.link =
    s.link ∧ s.cutPeriod.panto = s.panto ∧ s.cutPeriod.sweeper = s.sweeper ∧ s.cutPeriod.arc = s.arc ∧ s.cutPeriod.feeder =
    s.feeder ∧ s.cutPeriod.port = s.port ∧ s.cutPeriod.pending = s.pending := by
  simp only [State.cutPeriod]
  (repeat' split) <;> simp

/-- `cutPeriod` changes nothing but lim. -/
theorem State.cutPeriod_frame (s : State) :
    s.cutPeriod = { s with
      lim := s.cutPeriod.lim } := by
  apply State.eq_of_fields <;> simp

@[simp] theorem State.immediateCap_fields (s : State) (c : Nat) :
    (s.immediateCap c).startup = s.startup ∧ (s.immediateCap c).clock = s.clock ∧ (s.immediateCap c).config = s.config ∧
    (s.immediateCap c).loadResult = s.loadResult ∧ (s.immediateCap c).share = s.share ∧ (s.immediateCap c).peers = s.peers ∧
    (s.immediateCap c).holds = s.holds ∧ (s.immediateCap c).link = s.link ∧ (s.immediateCap c).panto = s.panto ∧ (s.immediateCap
    c).sweeper = s.sweeper ∧ (s.immediateCap c).arc = s.arc ∧ (s.immediateCap c).feeder = s.feeder ∧ (s.immediateCap c).port =
    s.port ∧ (s.immediateCap c).pending = s.pending := by
  simp only [State.immediateCap]
  (repeat' split) <;> simp

/-- `immediateCap` changes nothing but lim. -/
theorem State.immediateCap_frame (s : State) (c : Nat) :
    (s.immediateCap c) = { s with
      lim := (s.immediateCap c).lim } := by
  apply State.eq_of_fields <;> simp

@[simp] theorem State.floorOnset_fields (s : State) :
    s.floorOnset.startup = s.startup ∧ s.floorOnset.clock = s.clock ∧ s.floorOnset.config = s.config ∧ s.floorOnset.loadResult =
    s.loadResult ∧ s.floorOnset.share = s.share ∧ s.floorOnset.peers = s.peers ∧ s.floorOnset.holds = s.holds ∧
    s.floorOnset.link = s.link ∧ s.floorOnset.panto = s.panto ∧ s.floorOnset.sweeper = s.sweeper ∧ s.floorOnset.arc = s.arc ∧
    s.floorOnset.feeder = s.feeder ∧ s.floorOnset.port = s.port ∧ s.floorOnset.pending = s.pending := by
  simp [State.floorOnset]

/-- `floorOnset` changes nothing but lim. -/
theorem State.floorOnset_frame (s : State) :
    s.floorOnset = { s with
      lim := s.floorOnset.lim } := by
  apply State.eq_of_fields <;> simp

@[simp] theorem State.applyTarget_fields (s : State) (c : Nat) :
    (s.applyTarget c).startup = s.startup ∧ (s.applyTarget c).clock = s.clock ∧ (s.applyTarget c).config = s.config ∧
    (s.applyTarget c).loadResult = s.loadResult ∧ (s.applyTarget c).share = s.share ∧ (s.applyTarget c).peers = s.peers ∧
    (s.applyTarget c).holds = s.holds ∧ (s.applyTarget c).link = s.link ∧ (s.applyTarget c).panto = s.panto ∧ (s.applyTarget
    c).sweeper = s.sweeper ∧ (s.applyTarget c).arc = s.arc ∧ (s.applyTarget c).feeder = s.feeder ∧ (s.applyTarget c).port =
    s.port ∧ (s.applyTarget c).pending = s.pending := by
  simp [State.applyTarget]

/-- `applyTarget` changes nothing but lim. -/
theorem State.applyTarget_frame (s : State) (c : Nat) :
    (s.applyTarget c) = { s with
      lim := (s.applyTarget c).lim } := by
  apply State.eq_of_fields <;> simp

@[simp] theorem State.raiseIf_fields (s : State) (b : Bool) (e : Event) :
    (s.raiseIf b e).startup = s.startup ∧ (s.raiseIf b e).clock = s.clock ∧ (s.raiseIf b e).config = s.config ∧ (s.raiseIf b
    e).loadResult = s.loadResult ∧ (s.raiseIf b e).share = s.share ∧ (s.raiseIf b e).peers = s.peers ∧ (s.raiseIf b e).holds =
    s.holds ∧ (s.raiseIf b e).link = s.link ∧ (s.raiseIf b e).lim = s.lim ∧ (s.raiseIf b e).panto = s.panto ∧ (s.raiseIf b
    e).sweeper = s.sweeper ∧ (s.raiseIf b e).arc = s.arc ∧ (s.raiseIf b e).feeder = s.feeder ∧ (s.raiseIf b e).pending =
    s.pending := by
  simp only [State.raiseIf]
  (repeat' split) <;> simp

/-- `raiseIf` changes nothing but port. -/
theorem State.raiseIf_frame (s : State) (b : Bool) (e : Event) :
    (s.raiseIf b e) = { s with
      port := (s.raiseIf b e).port } := by
  apply State.eq_of_fields <;> simp

@[simp] theorem State.offer_fields (s : State) (k : Slot) (p : Payload) :
    (s.offer k p).startup = s.startup ∧ (s.offer k p).clock = s.clock ∧ (s.offer k p).config = s.config ∧ (s.offer k
    p).loadResult = s.loadResult ∧ (s.offer k p).share = s.share ∧ (s.offer k p).peers = s.peers ∧ (s.offer k p).holds = s.holds
    ∧ (s.offer k p).lim = s.lim ∧ (s.offer k p).panto = s.panto ∧ (s.offer k p).sweeper = s.sweeper ∧ (s.offer k p).arc = s.arc
    ∧ (s.offer k p).feeder = s.feeder ∧ (s.offer k p).port = s.port ∧ (s.offer k p).pending = s.pending := by
  simp only [State.offer]
  (repeat' split) <;> simp

/-- `offer` changes nothing but link. -/
theorem State.offer_frame (s : State) (k : Slot) (p : Payload) :
    (s.offer k p) = { s with
      link := (s.offer k p).link } := by
  apply State.eq_of_fields <;> simp

@[simp] theorem State.takeStormCount_fields (s : State) :
    s.takeStormCount.startup = s.startup ∧ s.takeStormCount.clock = s.clock ∧ s.takeStormCount.config = s.config ∧
    s.takeStormCount.loadResult = s.loadResult ∧ s.takeStormCount.share = s.share ∧ s.takeStormCount.peers = s.peers ∧
    s.takeStormCount.holds = s.holds ∧ s.takeStormCount.link = s.link ∧ s.takeStormCount.panto = s.panto ∧
    s.takeStormCount.sweeper = s.sweeper ∧ s.takeStormCount.feeder = s.feeder ∧ s.takeStormCount.pending = s.pending := by
  simp only [State.takeStormCount]
  (repeat' split) <;> simp

/-- `takeStormCount` changes nothing but arc, lim, port. -/
theorem State.takeStormCount_frame (s : State) :
    s.takeStormCount = { s with
      arc := s.takeStormCount.arc
      lim := s.takeStormCount.lim
      port := s.takeStormCount.port } := by
  apply State.eq_of_fields <;> simp

@[simp] theorem State.logRecord_fields (s : State) (r : ArcRecord) :
    (s.logRecord r).startup = s.startup ∧ (s.logRecord r).clock = s.clock ∧ (s.logRecord r).config = s.config ∧ (s.logRecord
    r).loadResult = s.loadResult ∧ (s.logRecord r).share = s.share ∧ (s.logRecord r).peers = s.peers ∧ (s.logRecord r).holds =
    s.holds ∧ (s.logRecord r).link = s.link ∧ (s.logRecord r).panto = s.panto ∧ (s.logRecord r).sweeper = s.sweeper ∧
    (s.logRecord r).feeder = s.feeder ∧ (s.logRecord r).pending = s.pending := by
  simp [State.logRecord]

/-- `logRecord` changes nothing but arc, lim, port. -/
theorem State.logRecord_frame (s : State) (r : ArcRecord) :
    (s.logRecord r) = { s with
      arc := (s.logRecord r).arc
      lim := (s.logRecord r).lim
      port := (s.logRecord r).port } := by
  apply State.eq_of_fields <;> simp

@[simp] theorem State.settleArcs_fields (s : State) (l : List ArcRecord) :
    (s.settleArcs l).startup = s.startup ∧ (s.settleArcs l).clock = s.clock ∧ (s.settleArcs l).config = s.config ∧ (s.settleArcs
    l).loadResult = s.loadResult ∧ (s.settleArcs l).share = s.share ∧ (s.settleArcs l).peers = s.peers ∧ (s.settleArcs l).holds
    = s.holds ∧ (s.settleArcs l).link = s.link ∧ (s.settleArcs l).panto = s.panto ∧ (s.settleArcs l).sweeper = s.sweeper ∧
    (s.settleArcs l).feeder = s.feeder ∧ (s.settleArcs l).pending = s.pending := by
  induction l generalizing s with
  | nil => simp [State.settleArcs]
  | cons r rest ih =>
    unfold State.settleArcs
    split
    · simp [ih]
    · simp

/-- `settleArcs` changes nothing but arc, lim, port. -/
theorem State.settleArcs_frame (s : State) (l : List ArcRecord) :
    (s.settleArcs l) = { s with
      arc := (s.settleArcs l).arc
      lim := (s.settleArcs l).lim
      port := (s.settleArcs l).port } := by
  apply State.eq_of_fields <;> simp

@[simp] theorem State.changeArcs_fields (s : State) (l : List ArcRecord) :
    (s.changeArcs l).startup = s.startup ∧ (s.changeArcs l).clock = s.clock ∧ (s.changeArcs l).config = s.config ∧ (s.changeArcs
    l).loadResult = s.loadResult ∧ (s.changeArcs l).share = s.share ∧ (s.changeArcs l).peers = s.peers ∧ (s.changeArcs l).holds
    = s.holds ∧ (s.changeArcs l).link = s.link ∧ (s.changeArcs l).panto = s.panto ∧ (s.changeArcs l).sweeper = s.sweeper ∧
    (s.changeArcs l).feeder = s.feeder ∧ (s.changeArcs l).pending = s.pending := by
  simp only [State.changeArcs]
  (repeat' split) <;> simp

/-- `changeArcs` changes nothing but arc, lim, port. -/
theorem State.changeArcs_frame (s : State) (l : List ArcRecord) :
    (s.changeArcs l) = { s with
      arc := (s.changeArcs l).arc
      lim := (s.changeArcs l).lim
      port := (s.changeArcs l).port } := by
  apply State.eq_of_fields <;> simp

@[simp] theorem State.flushArcs_fields (s : State) :
    s.flushArcs.startup = s.startup ∧ s.flushArcs.clock = s.clock ∧ s.flushArcs.config = s.config ∧ s.flushArcs.loadResult =
    s.loadResult ∧ s.flushArcs.share = s.share ∧ s.flushArcs.peers = s.peers ∧ s.flushArcs.holds = s.holds ∧ s.flushArcs.link =
    s.link ∧ s.flushArcs.panto = s.panto ∧ s.flushArcs.sweeper = s.sweeper ∧ s.flushArcs.feeder = s.feeder ∧ s.flushArcs.pending
    = s.pending := by
  simp only [State.flushArcs]
  (repeat' split) <;> simp

/-- `flushArcs` changes nothing but arc, lim, port. -/
theorem State.flushArcs_frame (s : State) :
    s.flushArcs = { s with
      arc := s.flushArcs.arc
      lim := s.flushArcs.lim
      port := s.flushArcs.port } := by
  apply State.eq_of_fields <;> simp

@[simp] theorem State.enterLowered_fields (s : State) :
    s.enterLowered.startup = s.startup ∧ s.enterLowered.clock = s.clock ∧ s.enterLowered.config = s.config ∧
    s.enterLowered.loadResult = s.loadResult ∧ s.enterLowered.share = s.share ∧ s.enterLowered.peers = s.peers ∧
    s.enterLowered.holds = s.holds ∧ s.enterLowered.link = s.link ∧ s.enterLowered.sweeper = s.sweeper ∧ s.enterLowered.feeder =
    s.feeder ∧ s.enterLowered.pending = s.pending := by
  simp [State.enterLowered]

/-- `enterLowered` changes nothing but panto, arc, lim, port. -/
theorem State.enterLowered_frame (s : State) :
    s.enterLowered = { s with
      panto := s.enterLowered.panto
      arc := s.enterLowered.arc
      lim := s.enterLowered.lim
      port := s.enterLowered.port } := by
  apply State.eq_of_fields <;> simp

@[simp] theorem State.contactEntered_fields (s : State) :
    s.contactEntered.startup = s.startup ∧ s.contactEntered.clock = s.clock ∧ s.contactEntered.config = s.config ∧
    s.contactEntered.loadResult = s.loadResult ∧ s.contactEntered.peers = s.peers ∧ s.contactEntered.holds = s.holds ∧
    s.contactEntered.link = s.link ∧ s.contactEntered.lim = s.lim ∧ s.contactEntered.panto = s.panto ∧ s.contactEntered.sweeper
    = s.sweeper ∧ s.contactEntered.arc = s.arc ∧ s.contactEntered.feeder = s.feeder ∧ s.contactEntered.port = s.port ∧
    s.contactEntered.pending = s.pending := by
  simp only [State.contactEntered]
  (repeat' split) <;> simp

/-- `contactEntered` changes nothing but share. -/
theorem State.contactEntered_frame (s : State) :
    s.contactEntered = { s with
      share := s.contactEntered.share } := by
  apply State.eq_of_fields <;> simp

@[simp] theorem State.contactLeft_fields (s : State) (down : Bool) :
    (s.contactLeft down).startup = s.startup ∧ (s.contactLeft down).clock = s.clock ∧ (s.contactLeft down).config = s.config ∧
    (s.contactLeft down).loadResult = s.loadResult ∧ (s.contactLeft down).peers = s.peers ∧ (s.contactLeft down).holds = s.holds
    ∧ (s.contactLeft down).panto = s.panto ∧ (s.contactLeft down).sweeper = s.sweeper ∧ (s.contactLeft down).arc = s.arc ∧
    (s.contactLeft down).feeder = s.feeder ∧ (s.contactLeft down).port = s.port ∧ (s.contactLeft down).pending = s.pending := by
  simp only [State.contactLeft]
  (repeat' split) <;> simp

/-- `contactLeft` changes nothing but share, lim, link. -/
theorem State.contactLeft_frame (s : State) (down : Bool) :
    (s.contactLeft down) = { s with
      share := (s.contactLeft down).share
      lim := (s.contactLeft down).lim
      link := (s.contactLeft down).link } := by
  apply State.eq_of_fields <;> simp

@[simp] theorem State.requestCrossing_fields (s : State) :
    s.requestCrossing.startup = s.startup ∧ s.requestCrossing.clock = s.clock ∧ s.requestCrossing.config = s.config ∧
    s.requestCrossing.loadResult = s.loadResult ∧ s.requestCrossing.peers = s.peers ∧ s.requestCrossing.holds = s.holds ∧
    s.requestCrossing.panto = s.panto ∧ s.requestCrossing.sweeper = s.sweeper ∧ s.requestCrossing.arc = s.arc ∧
    s.requestCrossing.feeder = s.feeder ∧ s.requestCrossing.port = s.port ∧ s.requestCrossing.pending = s.pending := by
  simp only [State.requestCrossing]
  (repeat' split) <;> simp

/-- `requestCrossing` changes nothing but share, lim, link. -/
theorem State.requestCrossing_frame (s : State) :
    s.requestCrossing = { s with
      share := s.requestCrossing.share
      lim := s.requestCrossing.lim
      link := s.requestCrossing.link } := by
  apply State.eq_of_fields <;> simp

@[simp] theorem State.completeCrossing_fields (s : State) :
    s.completeCrossing.startup = s.startup ∧ s.completeCrossing.clock = s.clock ∧ s.completeCrossing.config = s.config ∧
    s.completeCrossing.loadResult = s.loadResult ∧ s.completeCrossing.link = s.link ∧ s.completeCrossing.lim = s.lim ∧
    s.completeCrossing.panto = s.panto ∧ s.completeCrossing.sweeper = s.sweeper ∧ s.completeCrossing.arc = s.arc ∧
    s.completeCrossing.feeder = s.feeder ∧ s.completeCrossing.pending = s.pending := by
  simp [State.completeCrossing]

/-- `completeCrossing` changes nothing but share, peers, holds, port. -/
theorem State.completeCrossing_frame (s : State) :
    s.completeCrossing = { s with
      share := s.completeCrossing.share
      peers := s.completeCrossing.peers
      holds := s.completeCrossing.holds
      port := s.completeCrossing.port } := by
  apply State.eq_of_fields <;> simp

@[simp] theorem State.setInCrossing_fields (s : State) :
    s.setInCrossing.startup = s.startup ∧ s.setInCrossing.clock = s.clock ∧ s.setInCrossing.config = s.config ∧
    s.setInCrossing.loadResult = s.loadResult ∧ s.setInCrossing.link = s.link ∧ s.setInCrossing.lim = s.lim ∧
    s.setInCrossing.panto = s.panto ∧ s.setInCrossing.sweeper = s.sweeper ∧ s.setInCrossing.arc = s.arc ∧ s.setInCrossing.feeder
    = s.feeder ∧ s.setInCrossing.pending = s.pending := by
  simp only [State.setInCrossing]
  (repeat' split) <;> simp

/-- `setInCrossing` changes nothing but share, peers, holds, port. -/
theorem State.setInCrossing_frame (s : State) :
    s.setInCrossing = { s with
      share := s.setInCrossing.share
      peers := s.setInCrossing.peers
      holds := s.setInCrossing.holds
      port := s.setInCrossing.port } := by
  apply State.eq_of_fields <;> simp

@[simp] theorem State.setInCollapse_fields (s : State) :
    s.setInCollapse.startup = s.startup ∧ s.setInCollapse.clock = s.clock ∧ s.setInCollapse.config = s.config ∧
    s.setInCollapse.loadResult = s.loadResult ∧ s.setInCollapse.peers = s.peers ∧ s.setInCollapse.holds = s.holds ∧
    s.setInCollapse.link = s.link ∧ s.setInCollapse.lim = s.lim ∧ s.setInCollapse.panto = s.panto ∧ s.setInCollapse.sweeper =
    s.sweeper ∧ s.setInCollapse.arc = s.arc ∧ s.setInCollapse.feeder = s.feeder ∧ s.setInCollapse.port = s.port ∧
    s.setInCollapse.pending = s.pending := by
  simp only [State.setInCollapse]
  (repeat' split) <;> simp

/-- `setInCollapse` changes nothing but share. -/
theorem State.setInCollapse_frame (s : State) :
    s.setInCollapse = { s with
      share := s.setInCollapse.share } := by
  apply State.eq_of_fields <;> simp

@[simp] theorem State.setInEpisode_fields (s : State) :
    s.setInEpisode.startup = s.startup ∧ s.setInEpisode.clock = s.clock ∧ s.setInEpisode.config = s.config ∧
    s.setInEpisode.loadResult = s.loadResult ∧ s.setInEpisode.peers = s.peers ∧ s.setInEpisode.holds = s.holds ∧
    s.setInEpisode.link = s.link ∧ s.setInEpisode.lim = s.lim ∧ s.setInEpisode.panto = s.panto ∧ s.setInEpisode.sweeper =
    s.sweeper ∧ s.setInEpisode.arc = s.arc ∧ s.setInEpisode.feeder = s.feeder ∧ s.setInEpisode.port = s.port ∧
    s.setInEpisode.pending = s.pending := by
  simp only [State.setInEpisode]
  (repeat' split) <;> simp

/-- `setInEpisode` changes nothing but share. -/
theorem State.setInEpisode_frame (s : State) :
    s.setInEpisode = { s with
      share := s.setInEpisode.share } := by
  apply State.eq_of_fields <;> simp

@[simp] theorem State.setInShareEngine_fields (s : State) :
    s.setInShareEngine.startup = s.startup ∧ s.setInShareEngine.clock = s.clock ∧ s.setInShareEngine.config = s.config ∧
    s.setInShareEngine.loadResult = s.loadResult ∧ s.setInShareEngine.link = s.link ∧ s.setInShareEngine.lim = s.lim ∧
    s.setInShareEngine.panto = s.panto ∧ s.setInShareEngine.sweeper = s.sweeper ∧ s.setInShareEngine.arc = s.arc ∧
    s.setInShareEngine.feeder = s.feeder ∧ s.setInShareEngine.pending = s.pending := by
  simp only [State.setInShareEngine]
  (repeat' split) <;> simp

/-- `setInShareEngine` changes nothing but share, peers, holds, port. -/
theorem State.setInShareEngine_frame (s : State) :
    s.setInShareEngine = { s with
      share := s.setInShareEngine.share
      peers := s.setInShareEngine.peers
      holds := s.setInShareEngine.holds
      port := s.setInShareEngine.port } := by
  apply State.eq_of_fields <;> simp

@[simp] theorem State.refusePeer_fields (s : State) :
    s.refusePeer.startup = s.startup ∧ s.refusePeer.clock = s.clock ∧ s.refusePeer.config = s.config ∧ s.refusePeer.loadResult =
    s.loadResult ∧ s.refusePeer.peers = s.peers ∧ s.refusePeer.holds = s.holds ∧ s.refusePeer.link = s.link ∧ s.refusePeer.panto
    = s.panto ∧ s.refusePeer.sweeper = s.sweeper ∧ s.refusePeer.arc = s.arc ∧ s.refusePeer.feeder = s.feeder ∧
    s.refusePeer.pending = s.pending := by
  simp only [State.refusePeer]
  (repeat' split) <;> simp

/-- `refusePeer` changes nothing but share, lim, port. -/
theorem State.refusePeer_frame (s : State) :
    s.refusePeer = { s with
      share := s.refusePeer.share
      lim := s.refusePeer.lim
      port := s.refusePeer.port } := by
  apply State.eq_of_fields <;> simp

@[simp] theorem State.takePeer_fields (s : State) (p : Peer) :
    (s.takePeer p).startup = s.startup ∧ (s.takePeer p).clock = s.clock ∧ (s.takePeer p).config = s.config ∧ (s.takePeer
    p).loadResult = s.loadResult ∧ (s.takePeer p).holds = s.holds ∧ (s.takePeer p).link = s.link ∧ (s.takePeer p).panto =
    s.panto ∧ (s.takePeer p).sweeper = s.sweeper ∧ (s.takePeer p).arc = s.arc ∧ (s.takePeer p).feeder = s.feeder ∧ (s.takePeer
    p).pending = s.pending := by
  simp only [State.takePeer]
  (repeat' split) <;> simp

/-- `takePeer` changes nothing but peers, share, lim, port. -/
theorem State.takePeer_frame (s : State) (p : Peer) :
    (s.takePeer p) = { s with
      peers := (s.takePeer p).peers
      share := (s.takePeer p).share
      lim := (s.takePeer p).lim
      port := (s.takePeer p).port } := by
  apply State.eq_of_fields <;> simp

@[simp] theorem State.withHolds_fields (s : State) (l : List Hold) :
    (s.withHolds l).startup = s.startup ∧ (s.withHolds l).clock = s.clock ∧ (s.withHolds l).config = s.config ∧ (s.withHolds
    l).loadResult = s.loadResult ∧ (s.withHolds l).share = s.share ∧ (s.withHolds l).peers = s.peers ∧ (s.withHolds l).link =
    s.link ∧ (s.withHolds l).panto = s.panto ∧ (s.withHolds l).sweeper = s.sweeper ∧ (s.withHolds l).arc = s.arc ∧ (s.withHolds
    l).feeder = s.feeder ∧ (s.withHolds l).pending = s.pending := by
  simp only [State.withHolds]
  (repeat' split) <;> simp

/-- `withHolds` changes nothing but holds, lim, port. -/
theorem State.withHolds_frame (s : State) (l : List Hold) :
    (s.withHolds l) = { s with
      holds := (s.withHolds l).holds
      lim := (s.withHolds l).lim
      port := (s.withHolds l).port } := by
  apply State.eq_of_fields <;> simp

@[simp] theorem State.takeShed_fields (s : State) (o : Address) (n : Nat) (r : Byte) :
    (s.takeShed o n r).startup = s.startup ∧ (s.takeShed o n r).clock = s.clock ∧ (s.takeShed o n r).config = s.config ∧
    (s.takeShed o n r).loadResult = s.loadResult ∧ (s.takeShed o n r).share = s.share ∧ (s.takeShed o n r).peers = s.peers ∧
    (s.takeShed o n r).link = s.link ∧ (s.takeShed o n r).panto = s.panto ∧ (s.takeShed o n r).sweeper = s.sweeper ∧ (s.takeShed
    o n r).arc = s.arc ∧ (s.takeShed o n r).feeder = s.feeder ∧ (s.takeShed o n r).pending = s.pending := by
  simp only [State.takeShed]
  (repeat' split) <;> simp

/-- `takeShed` changes nothing but holds, lim, port. -/
theorem State.takeShed_frame (s : State) (o : Address) (n : Nat) (r : Byte) :
    (s.takeShed o n r) = { s with
      holds := (s.takeShed o n r).holds
      lim := (s.takeShed o n r).lim
      port := (s.takeShed o n r).port } := by
  apply State.eq_of_fields <;> simp

@[simp] theorem State.deferFrame_fields (s : State) (k : Slot) (q : Queued) :
    (s.deferFrame k q).startup = s.startup ∧ (s.deferFrame k q).clock = s.clock ∧ (s.deferFrame k q).config = s.config ∧
    (s.deferFrame k q).loadResult = s.loadResult ∧ (s.deferFrame k q).share = s.share ∧ (s.deferFrame k q).peers = s.peers ∧
    (s.deferFrame k q).holds = s.holds ∧ (s.deferFrame k q).lim = s.lim ∧ (s.deferFrame k q).panto = s.panto ∧ (s.deferFrame k
    q).sweeper = s.sweeper ∧ (s.deferFrame k q).arc = s.arc ∧ (s.deferFrame k q).feeder = s.feeder ∧ (s.deferFrame k q).pending
    = s.pending := by
  simp only [State.deferFrame]
  (repeat' split) <;> simp

/-- `deferFrame` changes nothing but link, port. -/
theorem State.deferFrame_frame (s : State) (k : Slot) (q : Queued) :
    (s.deferFrame k q) = { s with
      link := (s.deferFrame k q).link
      port := (s.deferFrame k q).port } := by
  apply State.eq_of_fields <;> simp

@[simp] theorem State.enterSilent_fields (s : State) :
    s.enterSilent.startup = s.startup ∧ s.enterSilent.clock = s.clock ∧ s.enterSilent.config = s.config ∧
    s.enterSilent.loadResult = s.loadResult ∧ s.enterSilent.peers = s.peers ∧ s.enterSilent.holds = s.holds ∧ s.enterSilent.link
    = s.link ∧ s.enterSilent.panto = s.panto ∧ s.enterSilent.sweeper = s.sweeper ∧ s.enterSilent.arc = s.arc ∧
    s.enterSilent.feeder = s.feeder ∧ s.enterSilent.port = s.port ∧ s.enterSilent.pending = s.pending := by
  simp [State.enterSilent]

/-- `enterSilent` changes nothing but lim, share. -/
theorem State.enterSilent_frame (s : State) :
    s.enterSilent = { s with
      lim := s.enterSilent.lim
      share := s.enterSilent.share } := by
  apply State.eq_of_fields <;> simp

@[simp] theorem State.callShed_fields (s : State) (n : Nat) :
    (s.callShed n).startup = s.startup ∧ (s.callShed n).clock = s.clock ∧ (s.callShed n).config = s.config ∧ (s.callShed
    n).loadResult = s.loadResult ∧ (s.callShed n).share = s.share ∧ (s.callShed n).peers = s.peers ∧ (s.callShed n).holds =
    s.holds ∧ (s.callShed n).lim = s.lim ∧ (s.callShed n).panto = s.panto ∧ (s.callShed n).sweeper = s.sweeper ∧ (s.callShed
    n).arc = s.arc ∧ (s.callShed n).feeder = s.feeder ∧ (s.callShed n).pending = s.pending := by
  simp [State.callShed]

/-- `callShed` changes nothing but link, port. -/
theorem State.callShed_frame (s : State) (n : Nat) :
    (s.callShed n) = { s with
      link := (s.callShed n).link
      port := (s.callShed n).port } := by
  apply State.eq_of_fields <;> simp

@[simp] theorem State.repeatShed_fields (s : State) :
    s.repeatShed.startup = s.startup ∧ s.repeatShed.clock = s.clock ∧ s.repeatShed.config = s.config ∧ s.repeatShed.loadResult =
    s.loadResult ∧ s.repeatShed.share = s.share ∧ s.repeatShed.peers = s.peers ∧ s.repeatShed.holds = s.holds ∧ s.repeatShed.lim
    = s.lim ∧ s.repeatShed.panto = s.panto ∧ s.repeatShed.sweeper = s.sweeper ∧ s.repeatShed.arc = s.arc ∧ s.repeatShed.pending
    = s.pending := by
  simp [State.repeatShed]

/-- `repeatShed` changes nothing but link, port, feeder. -/
theorem State.repeatShed_frame (s : State) :
    s.repeatShed = { s with
      link := s.repeatShed.link
      port := s.repeatShed.port
      feeder := s.repeatShed.feeder } := by
  apply State.eq_of_fields <;> simp

@[simp] theorem State.setInRepeat_fields (s : State) :
    s.setInRepeat.startup = s.startup ∧ s.setInRepeat.clock = s.clock ∧ s.setInRepeat.config = s.config ∧
    s.setInRepeat.loadResult = s.loadResult ∧ s.setInRepeat.share = s.share ∧ s.setInRepeat.peers = s.peers ∧
    s.setInRepeat.holds = s.holds ∧ s.setInRepeat.lim = s.lim ∧ s.setInRepeat.panto = s.panto ∧ s.setInRepeat.sweeper =
    s.sweeper ∧ s.setInRepeat.arc = s.arc ∧ s.setInRepeat.pending = s.pending := by
  simp only [State.setInRepeat]
  (repeat' split) <;> simp

/-- `setInRepeat` changes nothing but link, port, feeder. -/
theorem State.setInRepeat_frame (s : State) :
    s.setInRepeat = { s with
      link := s.setInRepeat.link
      port := s.setInRepeat.port
      feeder := s.setInRepeat.feeder } := by
  apply State.eq_of_fields <;> simp

@[simp] theorem State.setInRelease_fields (s : State) :
    s.setInRelease.startup = s.startup ∧ s.setInRelease.clock = s.clock ∧ s.setInRelease.config = s.config ∧
    s.setInRelease.loadResult = s.loadResult ∧ s.setInRelease.share = s.share ∧ s.setInRelease.peers = s.peers ∧
    s.setInRelease.holds = s.holds ∧ s.setInRelease.link = s.link ∧ s.setInRelease.lim = s.lim ∧ s.setInRelease.panto = s.panto
    ∧ s.setInRelease.sweeper = s.sweeper ∧ s.setInRelease.arc = s.arc ∧ s.setInRelease.port = s.port ∧ s.setInRelease.pending =
    s.pending := by
  simp [State.setInRelease]

/-- `setInRelease` changes nothing but feeder. -/
theorem State.setInRelease_frame (s : State) :
    s.setInRelease = { s with
      feeder := s.setInRelease.feeder } := by
  apply State.eq_of_fields <;> simp

@[simp] theorem State.setInFeeder_fields (s : State) :
    s.setInFeeder.startup = s.startup ∧ s.setInFeeder.clock = s.clock ∧ s.setInFeeder.config = s.config ∧
    s.setInFeeder.loadResult = s.loadResult ∧ s.setInFeeder.share = s.share ∧ s.setInFeeder.peers = s.peers ∧
    s.setInFeeder.holds = s.holds ∧ s.setInFeeder.lim = s.lim ∧ s.setInFeeder.panto = s.panto ∧ s.setInFeeder.sweeper =
    s.sweeper ∧ s.setInFeeder.arc = s.arc ∧ s.setInFeeder.pending = s.pending := by
  simp only [State.setInFeeder]
  (repeat' split) <;> simp

/-- `setInFeeder` changes nothing but link, port, feeder. -/
theorem State.setInFeeder_frame (s : State) :
    s.setInFeeder = { s with
      link := s.setInFeeder.link
      port := s.setInFeeder.port
      feeder := s.setInFeeder.feeder } := by
  apply State.eq_of_fields <;> simp

@[simp] theorem State.endRaise_fields (s : State) :
    s.endRaise.startup = s.startup ∧ s.endRaise.clock = s.clock ∧ s.endRaise.config = s.config ∧ s.endRaise.loadResult =
    s.loadResult ∧ s.endRaise.share = s.share ∧ s.endRaise.peers = s.peers ∧ s.endRaise.holds = s.holds ∧ s.endRaise.link =
    s.link ∧ s.endRaise.lim = s.lim ∧ s.endRaise.sweeper = s.sweeper ∧ s.endRaise.arc = s.arc ∧ s.endRaise.feeder = s.feeder ∧
    s.endRaise.pending = s.pending := by
  simp [State.endRaise]

/-- `endRaise` changes nothing but port, panto. -/
theorem State.endRaise_frame (s : State) :
    s.endRaise = { s with
      port := s.endRaise.port
      panto := s.endRaise.panto } := by
  apply State.eq_of_fields <;> simp

@[simp] theorem State.contactLoss_fields (s : State) :
    s.contactLoss.startup = s.startup ∧ s.contactLoss.clock = s.clock ∧ s.contactLoss.config = s.config ∧
    s.contactLoss.loadResult = s.loadResult ∧ s.contactLoss.peers = s.peers ∧ s.contactLoss.holds = s.holds ∧
    s.contactLoss.sweeper = s.sweeper ∧ s.contactLoss.arc = s.arc ∧ s.contactLoss.feeder = s.feeder ∧ s.contactLoss.pending =
    s.pending := by
  simp only [State.contactLoss]
  (repeat' split) <;> simp

/-- `contactLoss` changes nothing but port, panto, share, lim, link. -/
theorem State.contactLoss_frame (s : State) :
    s.contactLoss = { s with
      port := s.contactLoss.port
      panto := s.contactLoss.panto
      share := s.contactLoss.share
      lim := s.contactLoss.lim
      link := s.contactLoss.link } := by
  apply State.eq_of_fields <;> simp

@[simp] theorem State.sensorFaultSet_fields (s : State) :
    s.sensorFaultSet.startup = s.startup ∧ s.sensorFaultSet.clock = s.clock ∧ s.sensorFaultSet.config = s.config ∧
    s.sensorFaultSet.loadResult = s.loadResult ∧ s.sensorFaultSet.peers = s.peers ∧ s.sensorFaultSet.holds = s.holds ∧
    s.sensorFaultSet.sweeper = s.sweeper ∧ s.sensorFaultSet.arc = s.arc ∧ s.sensorFaultSet.feeder = s.feeder ∧
    s.sensorFaultSet.port = s.port ∧ s.sensorFaultSet.pending = s.pending := by
  simp only [State.sensorFaultSet]
  (repeat' split) <;> simp

/-- `sensorFaultSet` changes nothing but panto, share, lim, link. -/
theorem State.sensorFaultSet_frame (s : State) :
    s.sensorFaultSet = { s with
      panto := s.sensorFaultSet.panto
      share := s.sensorFaultSet.share
      lim := s.sensorFaultSet.lim
      link := s.sensorFaultSet.link } := by
  apply State.eq_of_fields <;> simp

@[simp] theorem State.setInEpisodeOfHeads_fields (s : State) :
    s.setInEpisodeOfHeads.startup = s.startup ∧ s.setInEpisodeOfHeads.clock = s.clock ∧ s.setInEpisodeOfHeads.config = s.config
    ∧ s.setInEpisodeOfHeads.loadResult = s.loadResult ∧ s.setInEpisodeOfHeads.share = s.share ∧ s.setInEpisodeOfHeads.peers =
    s.peers ∧ s.setInEpisodeOfHeads.holds = s.holds ∧ s.setInEpisodeOfHeads.link = s.link ∧ s.setInEpisodeOfHeads.lim = s.lim ∧
    s.setInEpisodeOfHeads.sweeper = s.sweeper ∧ s.setInEpisodeOfHeads.arc = s.arc ∧ s.setInEpisodeOfHeads.feeder = s.feeder ∧
    s.setInEpisodeOfHeads.port = s.port ∧ s.setInEpisodeOfHeads.pending = s.pending := by
  simp only [State.setInEpisodeOfHeads]
  (repeat' split) <;> simp

/-- `setInEpisodeOfHeads` changes nothing but panto. -/
theorem State.setInEpisodeOfHeads_frame (s : State) :
    s.setInEpisodeOfHeads = { s with
      panto := s.setInEpisodeOfHeads.panto } := by
  apply State.eq_of_fields <;> simp

@[simp] theorem State.regulate_fields (s : State) :
    s.regulate.startup = s.startup ∧ s.regulate.clock = s.clock ∧ s.regulate.config = s.config ∧ s.regulate.loadResult =
    s.loadResult ∧ s.regulate.share = s.share ∧ s.regulate.peers = s.peers ∧ s.regulate.holds = s.holds ∧ s.regulate.link =
    s.link ∧ s.regulate.lim = s.lim ∧ s.regulate.sweeper = s.sweeper ∧ s.regulate.arc = s.arc ∧ s.regulate.feeder = s.feeder ∧
    s.regulate.port = s.port ∧ s.regulate.pending = s.pending := by
  simp only [State.regulate]
  (repeat' split) <;> simp

/-- `regulate` changes nothing but panto. -/
theorem State.regulate_frame (s : State) :
    s.regulate = { s with
      panto := s.regulate.panto } := by
  apply State.eq_of_fields <;> simp

@[simp] theorem State.watchLoss_fields (s : State) :
    s.watchLoss.startup = s.startup ∧ s.watchLoss.clock = s.clock ∧ s.watchLoss.config = s.config ∧ s.watchLoss.loadResult =
    s.loadResult ∧ s.watchLoss.share = s.share ∧ s.watchLoss.peers = s.peers ∧ s.watchLoss.holds = s.holds ∧ s.watchLoss.link =
    s.link ∧ s.watchLoss.lim = s.lim ∧ s.watchLoss.sweeper = s.sweeper ∧ s.watchLoss.arc = s.arc ∧ s.watchLoss.feeder = s.feeder
    ∧ s.watchLoss.port = s.port ∧ s.watchLoss.pending = s.pending := by
  simp only [State.watchLoss]
  (repeat' split) <;> simp

/-- `watchLoss` changes nothing but panto. -/
theorem State.watchLoss_frame (s : State) :
    s.watchLoss = { s with
      panto := s.watchLoss.panto } := by
  apply State.eq_of_fields <;> simp

@[simp] theorem State.watchImbalance_fields (s : State) :
    s.watchImbalance.startup = s.startup ∧ s.watchImbalance.clock = s.clock ∧ s.watchImbalance.config = s.config ∧
    s.watchImbalance.loadResult = s.loadResult ∧ s.watchImbalance.share = s.share ∧ s.watchImbalance.peers = s.peers ∧
    s.watchImbalance.holds = s.holds ∧ s.watchImbalance.link = s.link ∧ s.watchImbalance.lim = s.lim ∧ s.watchImbalance.sweeper
    = s.sweeper ∧ s.watchImbalance.arc = s.arc ∧ s.watchImbalance.feeder = s.feeder ∧ s.watchImbalance.port = s.port ∧
    s.watchImbalance.pending = s.pending := by
  simp only [State.watchImbalance]
  (repeat' split) <;> simp

/-- `watchImbalance` changes nothing but panto. -/
theorem State.watchImbalance_frame (s : State) :
    s.watchImbalance = { s with
      panto := s.watchImbalance.panto } := by
  apply State.eq_of_fields <;> simp

@[simp] theorem State.watchContact_fields (s : State) :
    s.watchContact.startup = s.startup ∧ s.watchContact.clock = s.clock ∧ s.watchContact.config = s.config ∧
    s.watchContact.loadResult = s.loadResult ∧ s.watchContact.share = s.share ∧ s.watchContact.peers = s.peers ∧
    s.watchContact.holds = s.holds ∧ s.watchContact.link = s.link ∧ s.watchContact.lim = s.lim ∧ s.watchContact.sweeper =
    s.sweeper ∧ s.watchContact.arc = s.arc ∧ s.watchContact.feeder = s.feeder ∧ s.watchContact.port = s.port ∧
    s.watchContact.pending = s.pending := by
  simp only [State.watchContact]
  (repeat' split) <;> simp

/-- `watchContact` changes nothing but panto. -/
theorem State.watchContact_frame (s : State) :
    s.watchContact = { s with
      panto := s.watchContact.panto } := by
  apply State.eq_of_fields <;> simp

@[simp] theorem State.setInRaising_fields (s : State) :
    s.setInRaising.startup = s.startup ∧ s.setInRaising.clock = s.clock ∧ s.setInRaising.config = s.config ∧
    s.setInRaising.loadResult = s.loadResult ∧ s.setInRaising.share = s.share ∧ s.setInRaising.peers = s.peers ∧
    s.setInRaising.holds = s.holds ∧ s.setInRaising.link = s.link ∧ s.setInRaising.lim = s.lim ∧ s.setInRaising.sweeper =
    s.sweeper ∧ s.setInRaising.arc = s.arc ∧ s.setInRaising.feeder = s.feeder ∧ s.setInRaising.pending = s.pending := by
  simp only [State.setInRaising]
  (repeat' split) <;> simp

/-- `setInRaising` changes nothing but panto, port. -/
theorem State.setInRaising_frame (s : State) :
    s.setInRaising = { s with
      panto := s.setInRaising.panto
      port := s.setInRaising.port } := by
  apply State.eq_of_fields <;> simp

@[simp] theorem State.setInUnloading_fields (s : State) :
    s.setInUnloading.startup = s.startup ∧ s.setInUnloading.clock = s.clock ∧ s.setInUnloading.config = s.config ∧
    s.setInUnloading.loadResult = s.loadResult ∧ s.setInUnloading.share = s.share ∧ s.setInUnloading.peers = s.peers ∧
    s.setInUnloading.holds = s.holds ∧ s.setInUnloading.link = s.link ∧ s.setInUnloading.lim = s.lim ∧ s.setInUnloading.sweeper
    = s.sweeper ∧ s.setInUnloading.arc = s.arc ∧ s.setInUnloading.feeder = s.feeder ∧ s.setInUnloading.port = s.port ∧
    s.setInUnloading.pending = s.pending := by
  simp only [State.setInUnloading]
  (repeat' split) <;> simp

/-- `setInUnloading` changes nothing but panto. -/
theorem State.setInUnloading_frame (s : State) :
    s.setInUnloading = { s with
      panto := s.setInUnloading.panto } := by
  apply State.eq_of_fields <;> simp

@[simp] theorem State.setInLowering_fields (s : State) :
    s.setInLowering.startup = s.startup ∧ s.setInLowering.clock = s.clock ∧ s.setInLowering.config = s.config ∧
    s.setInLowering.loadResult = s.loadResult ∧ s.setInLowering.share = s.share ∧ s.setInLowering.peers = s.peers ∧
    s.setInLowering.holds = s.holds ∧ s.setInLowering.link = s.link ∧ s.setInLowering.sweeper = s.sweeper ∧
    s.setInLowering.feeder = s.feeder ∧ s.setInLowering.pending = s.pending := by
  simp only [State.setInLowering]
  (repeat' split) <;> simp

/-- `setInLowering` changes nothing but panto, arc, lim, port. -/
theorem State.setInLowering_frame (s : State) :
    s.setInLowering = { s with
      panto := s.setInLowering.panto
      arc := s.setInLowering.arc
      lim := s.setInLowering.lim
      port := s.setInLowering.port } := by
  apply State.eq_of_fields <;> simp

@[simp] theorem State.setInPantograph_fields (s : State) :
    s.setInPantograph.startup = s.startup ∧ s.setInPantograph.clock = s.clock ∧ s.setInPantograph.config = s.config ∧
    s.setInPantograph.loadResult = s.loadResult ∧ s.setInPantograph.share = s.share ∧ s.setInPantograph.peers = s.peers ∧
    s.setInPantograph.holds = s.holds ∧ s.setInPantograph.link = s.link ∧ s.setInPantograph.sweeper = s.sweeper ∧
    s.setInPantograph.feeder = s.feeder ∧ s.setInPantograph.pending = s.pending := by
  simp only [State.setInPantograph]
  (repeat' split) <;> simp

/-- `setInPantograph` changes nothing but panto, arc, lim, port. -/
theorem State.setInPantograph_frame (s : State) :
    s.setInPantograph = { s with
      panto := s.setInPantograph.panto
      arc := s.setInPantograph.arc
      lim := s.setInPantograph.lim
      port := s.setInPantograph.port } := by
  apply State.eq_of_fields <;> simp

@[simp] theorem State.passSet_fields (s : State) :
    s.passSet.startup = s.startup ∧ s.passSet.clock = s.clock ∧ s.passSet.config = s.config ∧ s.passSet.loadResult =
    s.loadResult ∧ s.passSet.sweeper = s.sweeper ∧ s.passSet.pending = s.pending := by
  simp only [State.passSet]
  (repeat' split) <;> simp

/-- `passSet` changes nothing but share, peers, holds, port, panto, arc, lim, link, feeder. -/
theorem State.passSet_frame (s : State) :
    s.passSet = { s with
      share := s.passSet.share
      peers := s.passSet.peers
      holds := s.passSet.holds
      port := s.passSet.port
      panto := s.passSet.panto
      arc := s.passSet.arc
      lim := s.passSet.lim
      link := s.passSet.link
      feeder := s.passSet.feeder } := by
  apply State.eq_of_fields <;> simp

@[simp] theorem State.computingTick_fields (s : State) :
    s.computingTick.startup = s.startup ∧ s.computingTick.clock = s.clock ∧ s.computingTick.config = s.config ∧
    s.computingTick.loadResult = s.loadResult ∧ s.computingTick.peers = s.peers ∧ s.computingTick.holds = s.holds ∧
    s.computingTick.panto = s.panto ∧ s.computingTick.sweeper = s.sweeper ∧ s.computingTick.arc = s.arc ∧ s.computingTick.feeder
    = s.feeder ∧ s.computingTick.port = s.port ∧ s.computingTick.pending = s.pending := by
  simp [State.computingTick]

/-- `computingTick` changes nothing but lim, link, share. -/
theorem State.computingTick_frame (s : State) :
    s.computingTick = { s with
      lim := s.computingTick.lim
      link := s.computingTick.link
      share := s.computingTick.share } := by
  apply State.eq_of_fields <;> simp

@[simp] theorem State.shareTick_fields (s : State) :
    s.shareTick.startup = s.startup ∧ s.shareTick.clock = s.clock ∧ s.shareTick.config = s.config ∧ s.shareTick.loadResult =
    s.loadResult ∧ s.shareTick.peers = s.peers ∧ s.shareTick.holds = s.holds ∧ s.shareTick.panto = s.panto ∧ s.shareTick.sweeper
    = s.sweeper ∧ s.shareTick.arc = s.arc ∧ s.shareTick.feeder = s.feeder ∧ s.shareTick.port = s.port ∧ s.shareTick.pending =
    s.pending := by
  simp only [State.shareTick]
  (repeat' split) <;> simp

/-- `shareTick` changes nothing but lim, link, share. -/
theorem State.shareTick_frame (s : State) :
    s.shareTick = { s with
      lim := s.shareTick.lim
      link := s.shareTick.link
      share := s.shareTick.share } := by
  apply State.eq_of_fields <;> simp

@[simp] theorem State.feederTick_fields (s : State) :
    s.feederTick.startup = s.startup ∧ s.feederTick.clock = s.clock ∧ s.feederTick.config = s.config ∧ s.feederTick.loadResult =
    s.loadResult ∧ s.feederTick.share = s.share ∧ s.feederTick.peers = s.peers ∧ s.feederTick.holds = s.holds ∧ s.feederTick.lim
    = s.lim ∧ s.feederTick.panto = s.panto ∧ s.feederTick.sweeper = s.sweeper ∧ s.feederTick.arc = s.arc ∧ s.feederTick.feeder =
    s.feeder ∧ s.feederTick.port = s.port ∧ s.feederTick.pending = s.pending := by
  simp [State.feederTick]

/-- `feederTick` changes nothing but link. -/
theorem State.feederTick_frame (s : State) :
    s.feederTick = { s with
      link := s.feederTick.link } := by
  apply State.eq_of_fields <;> simp

@[simp] theorem State.openedOnTruck_fields (s : State) (a b : Bool) :
    (s.openedOnTruck a b).startup = s.startup ∧ (s.openedOnTruck a b).clock = s.clock ∧ (s.openedOnTruck a b).config = s.config
    ∧ (s.openedOnTruck a b).loadResult = s.loadResult ∧ (s.openedOnTruck a b).peers = s.peers ∧ (s.openedOnTruck a b).holds =
    s.holds ∧ (s.openedOnTruck a b).sweeper = s.sweeper ∧ (s.openedOnTruck a b).arc = s.arc ∧ (s.openedOnTruck a b).feeder =
    s.feeder ∧ (s.openedOnTruck a b).pending = s.pending := by
  simp only [State.openedOnTruck]
  (repeat' split) <;> simp

/-- `openedOnTruck` changes nothing but port, lim, panto, share, link. -/
theorem State.openedOnTruck_frame (s : State) (a b : Bool) :
    (s.openedOnTruck a b) = { s with
      port := (s.openedOnTruck a b).port
      lim := (s.openedOnTruck a b).lim
      panto := (s.openedOnTruck a b).panto
      share := (s.openedOnTruck a b).share
      link := (s.openedOnTruck a b).link } := by
  apply State.eq_of_fields <;> simp

@[simp] theorem State.openedOnFeeder_fields (s : State) (n : Nat) :
    (s.openedOnFeeder n).startup = s.startup ∧ (s.openedOnFeeder n).clock = s.clock ∧ (s.openedOnFeeder n).config = s.config ∧
    (s.openedOnFeeder n).loadResult = s.loadResult ∧ (s.openedOnFeeder n).share = s.share ∧ (s.openedOnFeeder n).peers = s.peers
    ∧ (s.openedOnFeeder n).holds = s.holds ∧ (s.openedOnFeeder n).link = s.link ∧ (s.openedOnFeeder n).lim = s.lim ∧
    (s.openedOnFeeder n).panto = s.panto ∧ (s.openedOnFeeder n).sweeper = s.sweeper ∧ (s.openedOnFeeder n).arc = s.arc ∧
    (s.openedOnFeeder n).pending = s.pending := by
  simp only [State.openedOnFeeder]
  (repeat' split) <;> simp

/-- `openedOnFeeder` changes nothing but port, feeder. -/
theorem State.openedOnFeeder_frame (s : State) (n : Nat) :
    (s.openedOnFeeder n) = { s with
      port := (s.openedOnFeeder n).port
      feeder := (s.openedOnFeeder n).feeder } := by
  apply State.eq_of_fields <;> simp

@[simp] theorem State.firstPantograph_fields (s : State) :
    s.firstPantograph.startup = s.startup ∧ s.firstPantograph.clock = s.clock ∧ s.firstPantograph.config = s.config ∧
    s.firstPantograph.loadResult = s.loadResult ∧ s.firstPantograph.share = s.share ∧ s.firstPantograph.peers = s.peers ∧
    s.firstPantograph.holds = s.holds ∧ s.firstPantograph.link = s.link ∧ s.firstPantograph.lim = s.lim ∧
    s.firstPantograph.sweeper = s.sweeper ∧ s.firstPantograph.arc = s.arc ∧ s.firstPantograph.feeder = s.feeder ∧
    s.firstPantograph.port = s.port ∧ s.firstPantograph.pending = s.pending := by
  simp only [State.firstPantograph]
  (repeat' split) <;> simp

/-- `firstPantograph` changes nothing but panto. -/
theorem State.firstPantograph_frame (s : State) :
    s.firstPantograph = { s with
      panto := s.firstPantograph.panto } := by
  apply State.eq_of_fields <;> simp

@[simp] theorem State.warmResetPantograph_fields (s : State) :
    s.warmResetPantograph.startup = s.startup ∧ s.warmResetPantograph.clock = s.clock ∧ s.warmResetPantograph.config = s.config
    ∧ s.warmResetPantograph.loadResult = s.loadResult ∧ s.warmResetPantograph.share = s.share ∧ s.warmResetPantograph.peers =
    s.peers ∧ s.warmResetPantograph.holds = s.holds ∧ s.warmResetPantograph.link = s.link ∧ s.warmResetPantograph.lim = s.lim ∧
    s.warmResetPantograph.sweeper = s.sweeper ∧ s.warmResetPantograph.arc = s.arc ∧ s.warmResetPantograph.feeder = s.feeder ∧
    s.warmResetPantograph.port = s.port ∧ s.warmResetPantograph.pending = s.pending := by
  simp only [State.warmResetPantograph]
  (repeat' split) <;> simp

/-- `warmResetPantograph` changes nothing but panto. -/
theorem State.warmResetPantograph_frame (s : State) :
    s.warmResetPantograph = { s with
      panto := s.warmResetPantograph.panto } := by
  apply State.eq_of_fields <;> simp

end Sys2Proof.Machine
end

