-- ==== Sys2Proof/Laws/Ops.lean ====
section
/-! SUPPORT. What each shared operation does, said once: the limit, the transmit queue, the tables, the storm count, the timers. -/

namespace Sys2Proof.Machine

/-! ### Time and timers -/

theorem State.takenAt_eq (t : Nat) (s : State) (h : s.running = true) : s.takenAt t = { s with clock := max s.clock t } := by
  simp [State.takenAt, h]

theorem State.takenAt_clock_of_ready (t : Nat) (s : State) (h : s.startup = .ready) : (s.takenAt t).clock = max s.clock t := by
  simp [State.takenAt, State.running, h]

theorem State.takenAt_of_ready (t : Nat) (s : State) (h : s.startup = .ready) :
    s.takenAt t = { s with clock := max s.clock t } :=
  State.takenAt_eq t s (by simp [State.running, h])

theorem State.due_some (s : State) (d : Nat) : s.due (some d) = decide (d ≤ s.clock) := rfl

@[simp] theorem State.due_none (s : State) : s.due none = false := rfl

/-- The next tick stands on the timer's grid, after the clock and at most one period after it (R44). -/
theorem nextTick_on_grid (p d c : Nat) (hp : 0 < p) (h : d ≤ c) :
    ∃ n, nextTick p d c = d + n * p ∧ c < d + n * p ∧ d + n * p ≤ c + p := by
  refine ⟨(c - d) / p + 1, by unfold nextTick; ring, ?_, ?_⟩
  · have := Nat.lt_div_mul_add (a := c - d) hp
    rw [Nat.add_mul]
    omega
  · have := Nat.div_mul_le_self (c - d) p
    rw [Nat.add_mul]
    omega

/-! ### The port -/

theorem onPort_of_ready (t : Nat) (s : State) (body : State → State) (h : s.startup = .ready) :
    onPort t s body = body (s.takenAt t) := by
  simp [onPort, h]

theorem onPort_of_starting (t : Nat) (s : State) (body : State → State) (h : s.startup = .loading ∨ s.startup = .selfCheck) :
    onPort t s body = (s.takenAt t).answer .notReady [] := by
  rcases h with h | h <;> simp [onPort, h]

theorem truckOnly_of_truck (s : State) (body : State → State) (h : s.isTruck = true) : truckOnly s body = body s := by
  simp [truckOnly, h]

theorem truckOnly_of_feeder (s : State) (body : State → State) (h : s.isTruck = false) :
    truckOnly s body = s.answer .wrongRole [] := by
  simp [truckOnly, h]

/-- Two raises of R175 in a row. -/
theorem TruckPort.raise_twice (p : TruckPort) (e : Event) : (p.raise e).raise e = p.raise e := by
  simp [TruckPort.raise, BitVec.or_assoc]

/-! ### The limit -/

@[simp] theorem State.cutPeriod_limit (s : State) : s.cutPeriod.lim.limit = s.lim.limit := by
  unfold State.cutPeriod
  split
  · simp only []
    split <;> simp
  · rfl

@[simp] theorem State.cutPeriod_lastTarget (s : State) : s.cutPeriod.lim.lastTarget = s.lim.lastTarget := by
  unfold State.cutPeriod
  split
  · simp only []
    split <;> simp
  · rfl

@[simp] theorem State.cutPeriod_nextBoundary (s : State) : s.cutPeriod.lim.nextBoundary = s.lim.nextBoundary := by
  unfold State.cutPeriod
  split
  · simp only []
    split <;> simp
  · rfl

/-- After a cut the period value is at most the limit (R71). -/
@[simp] theorem State.cutPeriod_periodValue (s : State) : s.cutPeriod.lim.periodValue = min s.lim.periodValue s.lim.limit := by
  unfold State.cutPeriod
  split
  · simp only []
    split <;> simp <;> omega
  · omega

/-- The cut reads the generator, the clock and the strobe mode only. -/
theorem State.cutPeriod_lim_congr (s u : State) (hl : s.lim = u.lim) (hc : s.clock = u.clock) (hg : s.config = u.config) :
    s.cutPeriod.lim = u.cutPeriod.lim := by
  simp only [State.cutPeriod, State.pwmCounter, State.strobe, hl, hc, hg]
  (repeat' split) <;> first | rfl | exact hl

@[simp] theorem State.immediateCap_limit (s : State) (c : Nat) : (s.immediateCap c).lim.limit = min s.lim.limit c := by
  unfold State.immediateCap
  split
  · simp
    omega
  · omega

@[simp] theorem State.immediateCap_lastTarget (s : State) (c : Nat) :
    (s.immediateCap c).lim.lastTarget = s.lim.lastTarget := by
  unfold State.immediateCap
  split <;> simp

@[simp] theorem State.immediateCap_nextBoundary (s : State) (c : Nat) :
    (s.immediateCap c).lim.nextBoundary = s.lim.nextBoundary := by
  unfold State.immediateCap
  split <;> simp

theorem State.immediateCap_of_le (s : State) (c : Nat) (h : s.lim.limit ≤ c) : s.immediateCap c = s := by
  simp [State.immediateCap, Nat.not_lt.2 h]

/-- A period value at most the limit stays so under a cap (R71). -/
theorem State.immediateCap_periodValue (s : State) (c : Nat) (h : s.lim.periodValue ≤ s.lim.limit) :
    (s.immediateCap c).lim.periodValue = min s.lim.periodValue c := by
  unfold State.immediateCap
  split
  · simp
  · omega

/-- A cap reads the generator, the clock and the strobe mode only. -/
theorem State.immediateCap_lim_congr (s u : State) (c : Nat) (hl : s.lim = u.lim) (hc : s.clock = u.clock)
    (hg : s.config = u.config) : (s.immediateCap c).lim = (u.immediateCap c).lim := by
  simp only [State.immediateCap, hl]
  split
  · exact State.cutPeriod_lim_congr _ _ rfl hc hg
  · exact hl

/-- R64. -/
@[simp] theorem State.applyTarget_limit (s : State) (c : Nat) :
    (s.applyTarget c).lim.limit = rampedLimit s.config.rampStep s.lim.limit c := by
  simp [State.applyTarget]

@[simp] theorem State.applyTarget_lastTarget (s : State) (c : Nat) : (s.applyTarget c).lim.lastTarget = c := by
  simp [State.applyTarget]

@[simp] theorem State.applyTarget_periodValue (s : State) (c : Nat) :
    (s.applyTarget c).lim.periodValue = min s.lim.periodValue (rampedLimit s.config.rampStep s.lim.limit c) := by
  simp [State.applyTarget]

/-- An application reads the generator, the clock, the ramp step and the strobe mode only. -/
theorem State.applyTarget_lim_congr (s u : State) (c : Nat) (hl : s.lim = u.lim) (hc : s.clock = u.clock)
    (hg : s.config = u.config) : (s.applyTarget c).lim = (u.applyTarget c).lim :=
  State.cutPeriod_lim_congr _ _ (by rw [hl, hg]) hc hg

/-! ### The transmit queue -/

@[simp] theorem CarrierLink.select_slots (l : CarrierLink) (c : Nat) :
    (l.select c).periodic = l.periodic ∧ (l.select c).shed = l.shed ∧ (l.select c).depart = l.depart ∧
      (l.select c).departFirst = l.departFirst ∧ (l.select c).txEnable = l.txEnable ∧
      (l.select c).assembler = l.assembler ∧ (l.select c).listenFrom = l.listenFrom := by
  simp only [CarrierLink.select]
  (repeat' split) <;> simp

@[simp] theorem CarrierLink.afterFill_slots (l : CarrierLink) (k : Slot) (c : Nat) :
    (l.afterFill k c).periodic = l.periodic ∧ (l.afterFill k c).shed = l.shed ∧ (l.afterFill k c).depart = l.depart ∧
      (l.afterFill k c).departFirst = l.departFirst ∧ (l.afterFill k c).txEnable = l.txEnable ∧
      (l.afterFill k c).assembler = l.assembler ∧ (l.afterFill k c).listenFrom = l.listenFrom := by
  simp only [CarrierLink.afterFill]
  (repeat' split) <;> simp

/-- A frame placed stands in its slot, with the count of the frame it replaced or 0 (R110). -/
theorem CarrierLink.place_own (l : CarrierLink) (k : Slot) (f : Frame) (c : Nat) :
    (l.place k f c).slot k = some { frame := f, attempts := ((l.slot k).map (·.attempts)).getD 0 } := by
  unfold CarrierLink.place
  cases h : l.slot k with
  | none => cases k <;> simp [CarrierLink.slot, CarrierLink.setSlot]
  | some q => cases k <;> simp [CarrierLink.slot, CarrierLink.setSlot]

/-- A frame placed leaves the other slots alone (R110). -/
theorem CarrierLink.place_other (l : CarrierLink) (k j : Slot) (f : Frame) (c : Nat) (h : j ≠ k) :
    (l.place k f c).slot j = l.slot j := by
  unfold CarrierLink.place
  split <;> cases k <;> cases j <;> simp_all [CarrierLink.slot, CarrierLink.setSlot, CarrierLink.noteOrder]

/-- The slots after a DEMAND or SUPPLY is placed. -/
theorem CarrierLink.place_periodic (l : CarrierLink) (f : Frame) (c : Nat) :
    (l.place .periodic f c).periodic = some { frame := f, attempts := (l.periodic.map (·.attempts)).getD 0 } ∧
      (l.place .periodic f c).shed = l.shed ∧ (l.place .periodic f c).depart = l.depart :=
  ⟨l.place_own .periodic f c, l.place_other .periodic .shed f c (by simp), l.place_other .periodic .depart f c (by simp)⟩

/-- The slots after a SHED is placed. -/
theorem CarrierLink.place_shed (l : CarrierLink) (f : Frame) (c : Nat) :
    (l.place .shed f c).shed = some { frame := f, attempts := (l.shed.map (·.attempts)).getD 0 } ∧
      (l.place .shed f c).periodic = l.periodic ∧ (l.place .shed f c).depart = l.depart :=
  ⟨l.place_own .shed f c, l.place_other .shed .periodic f c (by simp), l.place_other .shed .depart f c (by simp)⟩

/-- The slots after a DEPART is placed. -/
theorem CarrierLink.place_depart (l : CarrierLink) (f : Frame) (c : Nat) :
    (l.place .depart f c).depart = some { frame := f, attempts := (l.depart.map (·.attempts)).getD 0 } ∧
      (l.place .depart f c).periodic = l.periodic ∧ (l.place .depart f c).shed = l.shed :=
  ⟨l.place_own .depart f c, l.place_other .depart .periodic f c (by simp), l.place_other .depart .shed f c (by simp)⟩

@[simp] theorem CarrierLink.place_flags (l : CarrierLink) (k : Slot) (f : Frame) (c : Nat) :
    (l.place k f c).txEnable = l.txEnable ∧ (l.place k f c).assembler = l.assembler ∧
      (l.place k f c).listenFrom = l.listenFrom := by
  unfold CarrierLink.place
  split <;> cases k <;> simp [CarrierLink.setSlot, CarrierLink.noteOrder]

/-- R115: the periodic slot is empty and nothing else of the queue is changed. -/
@[simp] theorem CarrierLink.emptyPeriodic_slots (l : CarrierLink) (c : Nat) :
    (l.emptyPeriodic c).periodic = none ∧ (l.emptyPeriodic c).shed = l.shed ∧ (l.emptyPeriodic c).depart = l.depart ∧
      (l.emptyPeriodic c).txEnable = l.txEnable ∧ (l.emptyPeriodic c).assembler = l.assembler ∧
      (l.emptyPeriodic c).listenFrom = l.listenFrom := by
  unfold CarrierLink.emptyPeriodic
  split <;> simp

@[simp] theorem State.emptyPeriodic_link_eq (s : State) : s.emptyPeriodic.link = s.link.emptyPeriodic s.clock := rfl

/-- A frame offered where the link takes it (R110, R116). -/
theorem State.offer_of_taken (s : State) (k : Slot) (p : Payload) (h : s.linkTakes = true) :
    (s.offer k p).link = s.link.place k { source := s.config.address, payload := p } s.clock := by
  simp [State.offer, h]

/-- A frame offered where the link does not (R110, R116). -/
theorem State.offer_of_refused (s : State) (k : Slot) (p : Payload) (h : s.linkTakes = false) : s.offer k p = s := by
  simp [State.offer, h]

@[simp] theorem State.offer_flags (s : State) (k : Slot) (p : Payload) :
    (s.offer k p).link.txEnable = s.link.txEnable ∧ (s.offer k p).link.assembler = s.link.assembler ∧
      (s.offer k p).link.listenFrom = s.link.listenFrom := by
  unfold State.offer
  split <;> simp

/-! ### Silence and the loss of contact -/

/-- In ACTIVE a truck is SILENT exactly where the link takes none of its frames (R54, R110, R116). -/
theorem State.mode_bne_silent (s : State) (hT : s.isTruck = true) (hp : s.share.phase = .active) :
    (s.mode != .silent) = s.linkTakes := by
  unfold State.mode State.linkTakes State.muted
  simp only [hT, hp]
  cases h1 : s.link.txEnable <;> by_cases h2 : s.config.address = 0#16 <;> simp [h2] <;> (repeat' split) <;>
    first
    | rfl
    | (rw [show (s.config.address != 0#16) = true by simpa using h2]; rfl)

/-- The pantograph leaves CONTACT (R49, R50, R99, R115). -/
theorem State.contactLeft_spec (s : State) (down : Bool) (hT : s.isTruck = true) :
    (s.contactLeft down).share = { s.share with
      phase := .offline, listenTimer := none, crossSub := .none, crossTimer := none, collapseTimer := none } ∧
    (s.contactLeft down).lim = (s.immediateCap 0).lim ∧ (s.contactLeft down).link.periodic = none ∧
    (s.contactLeft down).link.shed = s.link.shed ∧
    (down = true → s.share.phase = .active → s.mode ≠ .silent → (s.contactLeft down).link.depart =
      some { frame := ⟨s.config.address, .depart⟩, attempts := (s.link.depart.map (·.attempts)).getD 0 }) ∧
    (down = false ∨ s.share.phase ≠ .active ∨ s.mode = .silent → (s.contactLeft down).link.depart = s.link.depart) := by
  generalize eu : s.contactLeft down = u
  unfold State.contactLeft at eu
  rw [if_pos hT] at eu
  simp only [] at eu
  generalize hc : ({ s with share := { s.share with
    phase := .offline, listenTimer := none, crossSub := .none, crossTimer := none, collapseTimer := none } } : State) = c at eu
  have lt : (c.immediateCap 0).emptyPeriodic.linkTakes = s.linkTakes := by subst hc; simp [State.linkTakes]
  have cl : (c.immediateCap 0).lim = (s.immediateCap 0).lim := by
    subst hc
    exact State.immediateCap_lim_congr _ _ _ rfl rfl rfl
  by_cases hd : (down && s.share.phase == Phase.active && s.mode != Mode.silent) = true
  · rw [if_pos hd] at eu
    simp only [Bool.and_eq_true, beq_iff_eq, bne_iff_ne, ne_eq] at hd
    have lt' := lt.trans (show s.linkTakes = true by
      rw [← State.mode_bne_silent s hT hd.1.2]
      simpa using hd.2)
    subst eu
    refine ⟨?_, by simp [cl], ?_, ?_, ?_, ?_⟩
    · subst hc; simp
    · simp [State.offer_of_taken _ _ _ lt', CarrierLink.place_depart]
    · subst hc; simp [State.offer_of_taken _ _ _ lt', CarrierLink.place_depart]
    · intros; subst hc; simp [State.offer_of_taken _ _ _ lt', CarrierLink.place_depart]
    · rintro (h | h | h)
      · simp [h] at hd
      · exact absurd hd.1.2 h
      · exact absurd h hd.2
  · rw [if_neg hd] at eu
    subst eu
    refine ⟨?_, by simp [cl], by simp, ?_, ?_, ?_⟩
    · subst hc; simp
    · subst hc; simp
    · intro h1 h2 h3
      simp [h1, h2, h3] at hd
    · intro _; subst hc; simp

/-! ### The storm count -/

/-- R160: the storm count lays the floor's cap exactly when it sets the flag. -/
theorem State.takeStormCount_cases (s : State) :
    (s.takeStormCount.lim = s.lim ∧ s.takeStormCount.port = s.port ∧
      (s.takeStormCount.arc.storm = true → s.arc.storm = true)) ∨
    (s.arc.storm = false ∧ s.takeStormCount.arc.storm = true ∧ s.takeStormCount.port = s.port.raise .arcStorm ∧
      s.takeStormCount.lim = (s.immediateCap s.config.floor).lim) := by
  unfold State.takeStormCount
  simp only []
  split
  · left
    split <;> simp_all
  · split
    · right
      refine ⟨by simp_all, ?_, ?_, ?_⟩
      · simp
      · simp
      · exact State.immediateCap_lim_congr _ _ _ rfl rfl rfl
    · left
      simp

/-- The log is left in place, each record marked aged or not (R160). -/
theorem State.takeStormCount_log (s : State) :
    s.takeStormCount.arc.log = markAged s.windowCounts s.arcNow s.arc.log ∧ s.takeStormCount.arc.pending = s.arc.pending := by
  unfold State.takeStormCount
  simp only []
  (repeat' split) <;> simp

/-! ### The loss timer in UNLOADING -/

/-- With a force channel OPEN no contact loss is counted: the timer is stopped, and nothing else happens (R133). -/
theorem State.lossInUnloading_of_open (s : State) (h : s.forceOpen = true) :
    s.lossInUnloading = { s with panto := { s.panto with lossTimer := none } } := if_pos h

theorem State.lossInUnloading_of_good (s : State) (h : s.forceOpen = false) :
    s.lossInUnloading = (s.raise .contactLost).enterLowering := by simp [State.lossInUnloading, h]

/-! ### The peer table -/

theorem mem_insertPeer (p q : Peer) (l : List Peer) : q ∈ insertPeer p l ↔ q = p ∨ q ∈ l := by
  induction l with
  | nil => simp [insertPeer]
  | cons x rest ih =>
    unfold insertPeer
    split
    · simp
    · simp only [List.mem_cons, ih]
      tauto

theorem length_insertPeer (p : Peer) (l : List Peer) : (insertPeer p l).length = l.length + 1 := by
  induction l with
  | nil => rfl
  | cons x rest ih =>
    unfold insertPeer
    split <;> simp [ih]

/-- Insertion of an address that is not present keeps the order of R26. -/
theorem pairwise_insertPeer (p : Peer) (l : List Peer) (h : l.Pairwise fun a b => a.address.toNat < b.address.toNat)
    (hn : ∀ q ∈ l, q.address ≠ p.address) : (insertPeer p l).Pairwise fun a b => a.address.toNat < b.address.toNat := by
  induction l with
  | nil => simp [insertPeer]
  | cons x rest ih =>
    rw [List.pairwise_cons] at h
    unfold insertPeer
    split
    · rename_i hlt
      refine List.pairwise_cons.2 ⟨?_, List.pairwise_cons.2 h⟩
      intro q hq
      rcases List.mem_cons.1 hq with rfl | hq
      · exact hlt
      · have := h.1 q hq
        omega
    · rename_i hge
      refine List.pairwise_cons.2 ⟨?_, ih h.2 fun q hq => hn q (List.mem_cons_of_mem _ hq)⟩
      intro q hq
      rcases (mem_insertPeer p q rest).1 hq with rfl | hq
      · have : x.address.toNat ≠ q.address.toNat := fun e => hn x List.mem_cons_self (BitVec.eq_of_toNat_eq e)
        omega
      · exact h.1 q hq

theorem mem_removePeer (a : Address) (l : List Peer) (q : Peer) : q ∈ removePeer a l ↔ q ∈ l ∧ q.address ≠ a := by
  simp [removePeer]

theorem hasPeer_iff (l : List Peer) (a : Address) : hasPeer l a = true ↔ ∃ q ∈ l, q.address = a := by
  simp [hasPeer]

@[simp] theorem updatePeer_addresses (p : Peer) (l : List Peer) : (updatePeer p l).map (·.address) = l.map (·.address) := by
  simp only [updatePeer, List.map_map]
  apply List.map_congr_left
  intro q _
  simp only [Function.comp]
  split <;> simp_all

@[simp] theorem length_updatePeer (p : Peer) (l : List Peer) : (updatePeer p l).length = l.length := by
  simp [updatePeer]

/-- R31: the entry evicted is the STALE one of the greatest age, and of equal ages the one of the lowest address. -/
theorem oldestStale_eq_some (now : Reading) (l : List Peer) (h : l.Pairwise fun a b => a.address.toNat < b.address.toNat)
    (v : Peer) (hv : v ∈ l) (hs : v.isFresh now = false)
    (hmax : ∀ q ∈ l, q.isFresh now = false →
      q.age now ≤ v.age now ∧ (q.age now = v.age now → v.address.toNat ≤ q.address.toNat)) :
    oldestStale now l = some v := by
  have stale : ∀ (m : List Peer) q, oldestStale now m = some q → q ∈ m ∧ q.isFresh now = false := by
    intro m
    induction m with
    | nil => intro q e; cases e
    | cons x m ih =>
      intro q e
      unfold oldestStale at e
      cases hx : oldestStale now m with
      | none =>
        simp only [hx, Option.ite_none_left_eq_some, Option.some.injEq] at e
        obtain ⟨a, rfl⟩ := e
        exact ⟨List.mem_cons_self, by simpa using a⟩
      | some y =>
        simp only [hx] at e
        split at e
        · rename_i hh
          cases e
          simp only [Bool.and_eq_true, Bool.not_eq_true', decide_eq_true_eq] at hh
          exact ⟨List.mem_cons_self, hh.1⟩
        · cases e
          exact ⟨List.mem_cons_of_mem _ (ih _ hx).1, (ih _ hx).2⟩
  induction l with
  | nil => cases hv
  | cons p rest ih =>
    rw [List.pairwise_cons] at h
    unfold oldestStale
    rcases List.mem_cons.1 hv with rfl | hv
    · cases ho : oldestStale now rest with
      | none => simp [hs]
      | some q =>
        have hq := stale rest q ho
        have := (hmax q (List.mem_cons_of_mem _ hq.1) hq.2).1
        simp [hs, this]
    · rw [ih h.2 hv fun q hq => hmax q (List.mem_cons_of_mem _ hq)]
      simp only []
      split
      · rename_i hh
        simp only [Bool.and_eq_true, Bool.not_eq_true', decide_eq_true_eq] at hh
        have h1 := hmax p List.mem_cons_self hh.1
        have := h1.2 (by omega)
        have := h.1 v hv
        omega
      · rfl

theorem oldestStale_eq_none (now : Reading) (l : List Peer) (h : ∀ q ∈ l, q.isFresh now = true) :
    oldestStale now l = none := by
  induction l with
  | nil => rfl
  | cons x l ih =>
    unfold oldestStale
    rw [ih fun q hq => h q (List.mem_cons_of_mem _ hq)]
    simp [h x List.mem_cons_self]

/-- An address present once leaves one entry fewer behind. -/
theorem length_removePeer (v : Peer) (l : List Peer) (h : l.Pairwise fun a b => a.address.toNat < b.address.toNat)
    (hv : v ∈ l) : (removePeer v.address l).length + 1 = l.length := by
  induction l with
  | nil => cases hv
  | cons x l ih =>
    rw [List.pairwise_cons] at h
    rcases List.mem_cons.1 hv with rfl | hm
    · have hne : ∀ q ∈ l, (q.address != v.address) = true := by
        intro q hq
        have := h.1 q hq
        simp only [bne_iff_ne, ne_eq]
        intro e
        rw [e] at this
        omega
      simp [removePeer, List.filter_eq_self.2 hne]
    · have h1 := h.1 v hm
      have hne : x.address ≠ v.address := by
        intro e
        rw [e] at h1
        omega
      have := ih h.2 hm
      simp only [removePeer] at this ⊢
      simp only [bne_iff_ne, ne_eq, hne, not_false_eq_true, List.filter_cons_of_pos, List.length_cons]
      omega

/-! ### The hold list -/

theorem mem_insertHold (h q : Hold) (now : Reading) (l : List Hold) : q ∈ insertHold h now l ↔ q = h ∨ q ∈ l := by
  induction l with
  | nil => simp [insertHold]
  | cons x rest ih =>
    unfold insertHold
    split
    · simp
    · simp only [List.mem_cons, ih]
      tauto

theorem length_insertHold (h : Hold) (now : Reading) (l : List Hold) : (insertHold h now l).length = l.length + 1 := by
  induction l with
  | nil => rfl
  | cons x rest ih =>
    unfold insertHold
    split <;> simp [ih]

theorem mem_removeHold (o : Address) (l : List Hold) (q : Hold) : q ∈ removeHold o l ↔ q ∈ l ∧ q.origin ≠ o := by
  simp [removeHold]

theorem hasHold_iff (l : List Hold) (o : Address) : hasHold l o = true ↔ ∃ q ∈ l, q.origin = o := by
  simp [hasHold]

/-- A SHED taken never leaves the list empty (R79). -/
theorem takenHolds_ne_nil (now : Reading) (o : Address) (units : Nat) (reason : Byte) (l : List Hold) :
    takenHolds now o units reason l ≠ [] := by
  unfold takenHolds
  simp only []
  split
  · exact List.ne_nil_of_length_pos (by rw [length_insertHold]; omega)
  · split
    · exact List.ne_nil_of_length_pos (by rw [length_insertHold]; omega)
    · split
      · exact List.ne_nil_of_length_pos (by rw [length_insertHold]; omega)
      · split
        · exact List.ne_nil_of_length_pos (by rw [length_insertHold]; omega)
        · simp

/-! ### The samples of a sweep -/

/-- The sample a sweep has at a position: the one taken for a pair, or else the one that comes with its completion (R147). -/
theorem Sweeper.sweepSamples_getD (w : Sweeper) (samples : Vector Code 18) (k : Nat) (h : k < 18) :
    (w.sweepSamples samples).toList.getD k 0 = (w.pairSamples.toList.getD k none).getD (samples.toList.getD k 0) := by
  simp [Sweeper.sweepSamples, List.getD_eq_getElem?_getD, h]

/-- A sweep of which no pair was taken has the samples that come with its completion. -/
theorem Sweeper.sweepSamples_of_none (w : Sweeper) (samples : Vector Code 18) (h : w.pairSamples = noSamples) :
    w.sweepSamples samples = samples := by
  ext k hk
  simp [Sweeper.sweepSamples, h, noSamples]

/-- Whatever the Sweeper does with a pair's end, only the samples of the sweep, the request and the held sample change; in the sweep the
pair was taken in, the sample enters at the position after the held one (R147). -/
theorem Sweeper.handPair_eq (w : Sweeper) (h : HeldSample) (sample : Code) :
    w.handPair h sample = { w with
      pairRequest := w.requestAfterPair h
      heldSample := none
      pairSamples := match w.conversion with
        | .sweep since =>
          if since ≤ h.begun then w.pairSamples.setIfInBounds ((h.begun - since) / 20 + 1) (some sample) else w.pairSamples
        | _ => w.pairSamples } := by
  obtain ⟨conversion⟩ := w
  cases conversion with
  | sweep since =>
    by_cases hb : since ≤ h.begun <;>
      simp [hb, Sweeper.handPair, Sweeper.keepPairEnd, Sweeper.keepSample, Sweeper.requestAfterPair, conversionTime]
  | stopped => rfl
  | selfCheck _ => rfl
  | test _ => rfl

/-! ### The arc records -/

theorem length_enterLog (log : List ArcRecord) (r : ArcRecord) (h : log.length ≤ 16) : (enterLog log r).length ≤ 16 := by
  unfold enterLog
  split
  · rename_i hlt
    simp only [arcLogCapacity] at hlt
    simp only [List.length_append, List.length_singleton]
    omega
  · simp only [List.length_append, List.length_drop, List.length_singleton]
    omega

@[simp] theorem length_markAged (w : Nat) (now : ArcTime) (log : List ArcRecord) : (markAged w now log).length = log.length := by
  simp [markAged]

/-- R158: the complete records at the front are the ones that leave, whatever the storm count does on the way. -/
theorem State.settleArcs_pending (l : List ArcRecord) (s : State) :
    (s.settleArcs l).arc.pending = l.dropWhile ArcRecord.complete := by
  induction l generalizing s with
  | nil => rfl
  | cons r rest ih =>
    unfold State.settleArcs
    by_cases h : r.complete = true
    · rw [if_pos h, ih, List.dropWhile_cons_of_pos h]
    · rw [if_neg h, List.dropWhile_cons_of_neg h]

/-- R156: the record that takes the duration is the first without one. -/
theorem timeOldest_append (f : ArcRecord → Option Nat) (pre : List ArcRecord) (r : ArcRecord) (post : List ArcRecord)
    (h1 : ∀ q ∈ pre, q.duration ≠ none) (h2 : r.duration = none) :
    timeOldest f (pre ++ r :: post) = pre ++ { r with duration := f r } :: post := by
  induction pre with
  | nil => simp [timeOldest, h2]
  | cons x pre ih =>
    have hx : x.duration.isNone = false := by
      cases h : x.duration
      · exact absurd h (h1 x List.mem_cons_self)
      · rfl
    simp [timeOldest, hx, ih fun q hq => h1 q (List.mem_cons_of_mem _ hq)]

theorem timeOldest_of_timed (f : ArcRecord → Option Nat) (l : List ArcRecord) (h : ∀ q ∈ l, q.duration ≠ none) :
    timeOldest f l = l := by
  induction l with
  | nil => rfl
  | cons x l ih =>
    have hx : x.duration.isNone = false := by
      cases hd : x.duration
      · exact absurd hd (h x List.mem_cons_self)
      · rfl
    simp [timeOldest, hx, ih fun q hq => h q (List.mem_cons_of_mem _ hq)]

/-- In the instant of a warm reset an arc start leaves the Arc Monitor as it is (R163). -/
theorem ArcMonitor.start_of_reset (a : ArcMonitor) (clock : Nat) (now : ArcTime) (h : a.resetAt = some clock) :
    a.start clock now = a := if_pos h

theorem ArcMonitor.start_of_later (a : ArcMonitor) (clock : Nat) (now : ArcTime) (h : a.resetAt ≠ some clock) :
    a.start clock now = { a with pending := startArc now a.pending } := if_neg h

/-- R155: never more than two records are pending. -/
theorem length_startArc (now : ArcTime) (l : List ArcRecord) (h : l.length ≤ 2) : (startArc now l).length ≤ 2 := by
  unfold startArc
  split <;> simp_all

end Sys2Proof.Machine
end

