-- ==== Sys2Proof/Laws/PerInstr.lean ====
section
/-! SUPPORT. A statement about every command as syntax: a port command is taken at its last byte and not before (R171). -/

namespace Sys2Proof.Laws.PortLayout

/-- R171: the bytes of a well-formed port command are complete, and no shorter run of them is. -/
def Statement (i : Instr) : Prop :=
  ∀ bytes, transactionBytes i = some bytes → i.wellFormed = true →
    incomplete bytes = false ∧ ∀ n, n < bytes.length → incomplete (bytes.take n) = true

/-- A command with the parameter bytes that its code counts. -/
theorem of_count {i : Instr} {code : Byte} {params : List Byte} (h : transactionBytes i = some (code :: params))
    (hc : paramCount code = some params.length) : Statement i := by
  intro bytes hb _
  obtain rfl : code :: params = bytes := Option.some.inj (h.symm.trans hb)
  refine ⟨by simp [incomplete, hc], fun n hn => ?_⟩
  cases n with
  | zero => rfl
  | succ k =>
    simp only [List.length_cons] at hn
    simp only [List.take_succ_cons, incomplete, hc, List.length_take, decide_eq_true_eq]
    omega

/-- A command that is no command of the port. -/
theorem of_none {i : Instr} (h : transactionBytes i = none) : Statement i := by
  intro bytes hb
  rw [h] at hb
  cases hb

theorem readStatus (t : Nat) : Statement (.readStatus t) :=
  of_count rfl rfl

theorem readEvents (t : Nat) : Statement (.readEvents t) :=
  of_count rfl rfl

theorem clearEvents (t : Nat) (mask : FlagSet) : Statement (.clearEvents t mask) :=
  of_count rfl rfl

theorem writeEventMask (t : Nat) (mask : FlagSet) : Statement (.writeEventMask t mask) :=
  of_count rfl rfl

theorem writeDemand (t : Nat) (demand : Half) (cls : Byte) : Statement (.writeDemand t demand cls) :=
  of_count rfl rfl

theorem writeCap (t : Nat) (cap : Half) : Statement (.writeCap t cap) :=
  of_count rfl rfl

theorem sectionAhead (t : Nat) : Statement (.sectionAhead t) :=
  of_count rfl rfl

theorem transmitOn (t : Nat) : Statement (.transmitOn t) :=
  of_count rfl rfl

theorem transmitOff (t : Nat) : Statement (.transmitOff t) :=
  of_count rfl rfl

theorem raise (t : Nat) (emlower : Bool) : Statement (.raise t emlower) :=
  of_count rfl rfl

theorem lower (t : Nat) : Statement (.lower t) :=
  of_count rfl rfl

theorem clearFault (t : Nat) : Statement (.clearFault t) :=
  of_count rfl rfl

theorem readPeer (t : Nat) (index : Byte) : Statement (.readPeer t index) :=
  of_count rfl rfl

theorem readBudget (t : Nat) : Statement (.readBudget t) :=
  of_count rfl rfl

theorem readHolds (t : Nat) : Statement (.readHolds t) :=
  of_count rfl rfl

theorem readArc (t : Nat) (index : Byte) : Statement (.readArc t index) :=
  of_count rfl rfl

theorem readMeasurements (t : Nat) : Statement (.readMeasurements t) :=
  of_count rfl rfl

theorem readConfig (t : Nat) : Statement (.readConfig t) :=
  of_count rfl rfl

theorem readIdentity (t : Nat) : Statement (.readIdentity t) :=
  of_count rfl rfl

theorem warmReset (t : Nat) : Statement (.warmReset t) :=
  of_count rfl rfl

theorem unknownCommand (t : Nat) (code : Byte) : Statement (.unknownCommand t code) := by
  intro bytes h hw
  cases h
  refine ⟨?_, fun n hn => ?_⟩
  · have : paramCount code = none := by simpa [Instr.wellFormed] using hw
    simp [incomplete, this]
  · simp only [List.length_cons, List.length_nil] at hn
    interval_cases n
    rfl

theorem transactionAbandoned (t : Nat) (bytes : List Byte) : Statement (.transactionAbandoned t bytes) := of_none rfl

theorem warmResetTaken (t : Nat) : Statement (.warmResetTaken t) := of_none rfl

theorem warmNFall (t : Nat) : Statement (.warmNFall t) := of_none rfl

theorem powerOnReset : Statement (.powerOnReset) := of_none rfl

theorem resetNRelease : Statement (.resetNRelease) := of_none rfl

theorem configurationLoadEnd (block : Option (Vector Byte 64)) : Statement (.configurationLoadEnd block) := of_none rfl

theorem selfcheckEnd (t : Nat) (tests : Vector WireTest 8) (samples : Vector Code 18) : Statement (.selfcheckEnd t tests samples) := of_none rfl

theorem cycleTick (t : Nat) : Statement (.cycleTick t) := of_none rfl

theorem listenTimerExpiry (t : Nat) : Statement (.listenTimerExpiry t) := of_none rfl

theorem overflowTimerExpiry (t : Nat) : Statement (.overflowTimerExpiry t) := of_none rfl

theorem crossingTimerExpiry (t : Nat) : Statement (.crossingTimerExpiry t) := of_none rfl

theorem collapseTimerExpiry (t : Nat) : Statement (.collapseTimerExpiry t) := of_none rfl

theorem holdExpiry (t : Nat) : Statement (.holdExpiry t) := of_none rfl

theorem entryBecomesStale (t : Nat) (address : Address) : Statement (.entryBecomesStale t address) := of_none rfl

theorem entryRemovedByAge (t : Nat) (address : Address) : Statement (.entryRemovedByAge t address) := of_none rfl

theorem demandReceived (t : Nat) (source : Address) (payload : DemandPayload) (line : Reception 20) :
    Statement (.demandReceived t source payload line) := of_none rfl

theorem supplyReceived (t : Nat) (source : Address) (payload : SupplyPayload) (line : Reception 17) :
    Statement (.supplyReceived t source payload line) := of_none rfl

theorem shedReceived (t : Nat) (source : Address) (payload : ShedPayload) (line : Reception 10) :
    Statement (.shedReceived t source payload line) := of_none rfl

theorem departReceived (t : Nat) (source : Address) (line : Reception 7) :
    Statement (.departReceived t source line) := of_none rfl

theorem receiveGapTimeout (heard : Heard) : Statement (.receiveGapTimeout heard) := of_none rfl

theorem frameDue (t : Nat) (carrier : Bool) : Statement (.frameDue t carrier) := of_none rfl

theorem transmissionEnd (t : Nat) : Statement (.transmissionEnd t) := of_none rfl

theorem sweepComplete (t : Nat) (samples : Vector Code 18) : Statement (.sweepComplete t samples) := of_none rfl

theorem openWireTestComplete (t : Nat) (test : WireTest) : Statement (.openWireTestComplete t test) := of_none rfl

theorem measurementPairHanded (t : Nat) (sample : Code) : Statement (.measurementPairHanded t sample) := of_none rfl

theorem arcStart (t : Nat) : Statement (.arcStart t) := of_none rfl

theorem arcEnd (t : Nat) : Statement (.arcEnd t) := of_none rfl

theorem arcSaturation (t : Nat) : Statement (.arcSaturation t) := of_none rfl

theorem sectAheadFall (t : Nat) : Statement (.sectAheadFall t) := of_none rfl

theorem emlowerNFall (t : Nat) : Statement (.emlowerNFall t) := of_none rfl

theorem contactQualificationExpiry (t : Nat) : Statement (.contactQualificationExpiry t) := of_none rfl

theorem raiseTimerExpiry (t : Nat) : Statement (.raiseTimerExpiry t) := of_none rfl

theorem lossTimerExpiry (t : Nat) : Statement (.lossTimerExpiry t) := of_none rfl

theorem imbalanceTimerExpiry (t : Nat) : Statement (.imbalanceTimerExpiry t) := of_none rfl

theorem unloadTimerExpiry (t : Nat) : Statement (.unloadTimerExpiry t) := of_none rfl

theorem lowerTimerExpiry (t : Nat) : Statement (.lowerTimerExpiry t) := of_none rfl

theorem overTimerExpiry (t : Nat) : Statement (.overTimerExpiry t) := of_none rfl

theorem repeatTimerExpiry (t : Nat) : Statement (.repeatTimerExpiry t) := of_none rfl

theorem releaseTimerExpiry (t : Nat) : Statement (.releaseTimerExpiry t) := of_none rfl

theorem periodBoundary (t : Nat) : Statement (.periodBoundary t) := of_none rfl

theorem lstbPulseEnd (t : Nat) : Statement (.lstbPulseEnd t) := of_none rfl

theorem actuatorPeriodBoundary (t : Nat) : Statement (.actuatorPeriodBoundary t) := of_none rfl

theorem framingError (heard : Heard) : Statement (.framingError heard) := of_none rfl

theorem headerTestFailed (t : Nat) (characters : List Character) : Statement (.headerTestFailed t characters) := of_none rfl

theorem channel0SampleHeld (t : Nat) (sample : Code) : Statement (.channel0SampleHeld t sample) := of_none rfl

theorem limitPulseEnd (t : Nat) : Statement (.limitPulseEnd t) := of_none rfl

theorem actuatorPulseEnd (t : Nat) : Statement (.actuatorPulseEnd t) := of_none rfl

end Sys2Proof.Laws.PortLayout
end

