-- ==== Sys2Proof/Laws/Reception.lean ====
section
/-! SUPPORT. What reception does (R105 to R109): a frame's bytes, a character the assembler takes or does not take, a whole frame
heard, and what an accepted frame leaves alone. -/

namespace Sys2Proof.Machine

/-! ### The bytes of a frame -/

/-- The two bytes of a field, joined again (R103). -/
theorem halves_join (h : Half) : h.extractLsb' 8 8 ++ h.extractLsb' 0 8 = h := by
  ext i hi
  simp only [BitVec.getElem_append, BitVec.getElem_extractLsb']
  split
  · simp [BitVec.getLsbD_eq_getElem (by omega : i < 16)]
  · simp [show 8 + (i - 8) = i by omega, BitVec.getLsbD_eq_getElem (by omega : i < 16)]

/-- The payload's length is the length its kind has (R103, R106). -/
theorem kindLength_payload (p : Payload) : kindLength (payloadKind p) = some (payloadBytes p).length := by
  cases p <;> rfl

theorem length_payload_le (p : Payload) : (payloadBytes p).length ≤ 13 := by
  cases p <;> simp [payloadBytes, demandBytes, supplyBytes, shedBytes, halfBytes]

theorem Frame.received_eq (f : Frame) (crc : Half) : f.received crc =
    0xA5 :: payloadKind f.payload :: f.source.extractLsb' 8 8 :: f.source.extractLsb' 0 8
      :: byte1 (payloadBytes f.payload).length :: (payloadBytes f.payload ++ halfBytes crc) := rfl

/-- A frame is 7 bytes and its payload (R103, R105). -/
theorem Frame.length_received (f : Frame) (crc : Half) : (f.received crc).length = 7 + (payloadBytes f.payload).length := by
  simp [Frame.received_eq, halfBytes]
  omega

/-- What a frame's bytes spell is the frame (R103). -/
theorem frameOf_received (f : Frame) (crc : Half) : frameOf (f.received crc) = some (f, crc) := by
  obtain ⟨a, p⟩ := f
  cases p <;>
    simp [Frame.received_eq, payloadKind, payloadBytes, demandBytes, supplyBytes, shedBytes, halfBytes, frameOf, demandOf,
      supplyOf, shedOf, departOf, halves_join]

/-- The bytes of a frame pass every header test as they come (R106). -/
theorem headerFails_received (f : Frame) (crc : Half) (n : Nat) : headerFails ((f.received crc).take n) = false := by
  have hk := kindLength_payload f.payload
  have hl : (byte1 (payloadBytes f.payload).length).toNat = (payloadBytes f.payload).length := by
    have := length_payload_le f.payload
    simp [byte1]
    omega
  rw [Frame.received_eq]
  rcases n with _ | _ | _ | _ | _ | _ | n
  · rfl
  · simp [headerFails]
  · simp [headerFails, hk]
  · simp [headerFails]
  · simp [headerFails]
  · simp [headerFails, hk, hl]
  · cases h : payloadBytes f.payload ++ halfBytes crc with
    | nil => simp [halfBytes] at h
    | cons x rest => simp [headerFails]

/-- A frame is not complete before its last byte (R105). -/
theorem frameComplete_take_received (f : Frame) (crc : Half) (n : Nat) :
    frameComplete ((f.received crc).take n) = decide ((f.received crc).length ≤ n) := by
  have hl : (byte1 (payloadBytes f.payload).length).toNat = (payloadBytes f.payload).length := by
    have := length_payload_le f.payload
    simp [byte1]
    omega
  have hn := f.length_received crc
  by_cases h5 : 5 ≤ n
  · obtain ⟨m, rfl⟩ := Nat.exists_eq_add_of_le' h5
    have hg : ((f.received crc).take (m + 5)).getD 4 0 = byte1 (payloadBytes f.payload).length := by
      simp [Frame.received_eq]
    simp only [frameComplete, hg, hl, List.length_take, hn]
    rw [← Bool.decide_and]
    exact decide_eq_decide.2 (by omega)
  · have : ¬ (f.received crc).length ≤ n := by omega
    simp only [frameComplete, List.length_take, this, decide_false, Bool.and_eq_false_iff, decide_eq_false_iff_not]
    exact .inl (by omega)

/-- With the last byte of a frame the assembler has it whole, and with every other byte it goes on (R105, R106). -/
theorem assembled_received (f : Frame) (crc : Half) (n : Nat) : assembled ((f.received crc).take n) =
    if (f.received crc).length ≤ n then (.waiting, some (f.received crc)) else (.assembling ((f.received crc).take n), none) := by
  simp only [assembled, headerFails_received, frameComplete_take_received, decide_eq_true_eq, Bool.false_eq_true, if_false]
  split
  · rename_i h
    rw [List.take_of_length_le h]
  · rfl

/-! ### One character -/

/-- R105: a character taken. -/
theorem State.takeCharacter_of_taken (s : State) (c : Character) (h : s.takes c = true) :
    s.takeCharacter c =
      let u := { s with link := { s.link with
        assembler := ((s.link.afterGap c.start).take c).1, listenFrom := c.start + characterTime } }
      match ((s.link.afterGap c.start).take c).2.bind frameOf with
      | some whole => u.takeFrame whole.1 whole.2
      | none => u := by
  unfold State.takeCharacter
  exact if_pos h

/-- R105: a character not taken changes nothing. -/
theorem State.takeCharacter_of_not_taken (s : State) (c : Character) (h : s.takes c = false) : s.takeCharacter c = s := by
  simp [State.takeCharacter, h]

/-- R105: within 2 ms of the one before it, a character finds the assembler as it stood. -/
theorem CarrierLink.afterGap_of_le (l : CarrierLink) (x : Nat) (h : x ≤ l.listenFrom + 2000) : l.afterGap x = l.assembler := by
  simp [CarrierLink.afterGap, maxGap, Nat.not_lt.2 h]

/-- R105: after a gap over 2 ms it finds it WAITING. -/
theorem CarrierLink.afterGap_of_lt (l : CarrierLink) (x : Nat) (h : l.listenFrom + 2000 < x) : l.afterGap x = .waiting := by
  simp [CarrierLink.afterGap, maxGap, h]

/-- R105: while MTXEN is asserted, and before the load has ended, no character is taken. -/
theorem State.hear_of_deaf (l : List Character) (s : State) (h : s.receiving = false) : s.hear l = s := by
  induction l with
  | nil => rfl
  | cons c l ih =>
    rw [State.hear, List.foldl_cons, State.takeCharacter_of_not_taken s c (by simp [State.takes, h])]
    exact ih

/-- R105: of characters begun before the own transmission ended nothing is taken. -/
theorem State.hear_of_early (l : List Character) (s : State) (h : ∀ c ∈ l, c.start < s.link.listenFrom) : s.hear l = s := by
  induction l with
  | nil => rfl
  | cons c l ih =>
    have hc := h c List.mem_cons_self
    rw [State.hear, List.foldl_cons, State.takeCharacter_of_not_taken s c (by simp [State.takes, Nat.not_le.2 hc])]
    exact ih fun d hd => h d (List.mem_cons_of_mem _ hd)

/-- R105: a hunting assembler discards the characters that follow within 2 ms of each other. -/
theorem State.hear_hunting (f : Frame) (crc : Half) (starts : List Nat) (k : Nat) (s : State)
    (hlen : k + starts.length = (f.received crc).length) (hne : starts ≠ [])
    (hr : s.receiving = true) (ha : s.link.assembler = .hunting) (hf : following s.clock s.link.listenFrom starts = true) :
    s.hear (List.zipWith (fun start byte => { start := start, byte := byte, framed := true }) starts
        ((f.received crc).drop k)) =
      { s with link := { s.link with assembler := .hunting, listenFrom := starts.getLastD 0 + 260 } } := by
  induction starts generalizing k s with
  | nil => exact absurd rfl hne
  | cons x rest ih =>
    simp only [List.length_cons] at hlen
    simp only [following, Bool.and_eq_true, decide_eq_true_eq] at hf
    obtain ⟨⟨⟨h1, h2⟩, h3⟩, h4⟩ := hf
    rw [List.drop_eq_getElem_cons (by omega), List.zipWith_cons_cons, State.hear, List.foldl_cons,
      State.takeCharacter_of_taken s _ (by simp [State.takes, hr, h1, characterTime, h3])]
    simp only [CarrierLink.afterGap_of_le _ _ h2, ha, Assembler.take, Option.bind_none]
    cases rest with
    | nil => simp [characterTime]
    | cons y rest =>
      have := ih (k + 1) { s with link := { s.link with assembler := .hunting, listenFrom := x + characterTime } }
        (by simp only [List.length_cons] at hlen ⊢; omega) (by simp) hr rfl h4
      rw [State.hear] at this
      rw [this]
      simp

/-- R105, R109: the rest of a frame in assembly heard, with its last character the frame is taken. -/
theorem State.hear_rest (f : Frame) (crc : Half) (starts : List Nat) (k : Nat) (s : State)
    (hlen : k + starts.length = (f.received crc).length) (hne : starts ≠ [])
    (hr : s.receiving = true) (ha : s.link.assembler = .assembling ((f.received crc).take k))
    (hf : following s.clock s.link.listenFrom starts = true) :
    s.hear (List.zipWith (fun start byte => { start := start, byte := byte, framed := true }) starts
        ((f.received crc).drop k)) =
      State.takeFrame { s with link := s.link.heard starts } f crc := by
  induction starts generalizing k s with
  | nil => exact absurd rfl hne
  | cons x rest ih =>
    simp only [List.length_cons] at hlen
    simp only [following, Bool.and_eq_true, decide_eq_true_eq] at hf
    obtain ⟨⟨⟨h1, h2⟩, h3⟩, h4⟩ := hf
    rw [List.drop_eq_getElem_cons (by omega), List.zipWith_cons_cons, State.hear, List.foldl_cons,
      State.takeCharacter_of_taken s _ (by simp [State.takes, hr, h1, characterTime, h3])]
    have hk : k < (f.received crc).length := by omega
    simp only [CarrierLink.afterGap_of_le _ _ h2, ha, Assembler.take, if_true, ← List.take_succ_eq_append_getElem hk,
      assembled_received]
    cases rest with
    | nil =>
      have hle : (f.received crc).length ≤ k + 1 := by simp at hlen; omega
      simp only [hle, if_true, Option.bind_some, frameOf_received, List.zipWith_nil_left, List.foldl_nil]
      rfl
    | cons y rest =>
      have hle : ¬ (f.received crc).length ≤ k + 1 := by simp at hlen; omega
      simp only [hle, if_false, Option.bind_none]
      have := ih (k + 1) { s with link := { s.link with
          assembler := .assembling ((f.received crc).take (k + 1)), listenFrom := x + characterTime } }
        (by simp only [List.length_cons] at hlen ⊢; omega) (by simp) hr rfl h4
      rw [State.hear] at this
      rw [this]
      simp [CarrierLink.heard]

/-- R105 to R109: the characters of a whole frame leave the assembler WAITING and the frame taken. -/
theorem State.hear_whole (f : Frame) (crc : Half) (t : Nat) (starts : List Nat) (s : State) (hready : s.startup = .ready)
    (hlen : starts.length = (f.received crc).length) (h : s.hearsWhole t starts = true) :
    (s.takenAt t).hear (f.characters crc starts) = State.takeFrame { s.takenAt t with link := s.link.heard starts } f crc := by
  have hc := State.takenAt_clock_of_ready t s hready
  cases starts with
  | nil => simp [State.hearsWhole] at h
  | cons x rest =>
    simp only [State.hearsWhole, Bool.and_eq_true, decide_eq_true_eq, Bool.or_eq_true, beq_iff_eq] at h
    obtain ⟨hr, ⟨⟨h1, h2⟩, h3⟩, h4⟩ := h
    have hn := f.length_received crc
    simp only [List.length_cons] at hlen
    have hg : (s.takenAt t).link.afterGap x = .waiting := by
      rcases h4 with h4 | h4
      · simp only [CarrierLink.afterGap, State.takenAt_link, h4, ite_self]
      · exact CarrierLink.afterGap_of_lt _ _ h4
    have hb : f.received crc = 0xA5 :: (f.received crc).drop 1 := by simp [Frame.received_eq]
    have ht : (f.received crc).take 1 = [0xA5] := by simp [Frame.received_eq]
    have hle : ¬ (f.received crc).length ≤ 1 := by omega
    have hs := assembled_received f crc 1
    rw [ht, if_neg hle] at hs
    have hrest : rest ≠ [] := by
      rintro rfl
      simp at hlen
      omega
    rw [Frame.characters, hb, List.zipWith_cons_cons, State.hear, List.foldl_cons,
      State.takeCharacter_of_taken _ _ (by
        simp only [State.takes, State.takenAt_link, hc, characterTime, Bool.and_eq_true, decide_eq_true_eq]
        exact ⟨⟨hr, decide_eq_true h1⟩, h2⟩)]
    simp only [hg, Assembler.take, if_true, hs, Option.bind_none]
    have := State.hear_rest f crc rest 1 { s.takenAt t with link := { s.link with
        assembler := .assembling [0xA5], listenFrom := x + characterTime } } (by omega) hrest hr (by rw [ht]) (by rw [hc]; exact h3)
    rw [State.hear] at this
    refine this.trans ?_
    cases rest with
    | nil => exact absurd rfl hrest
    | cons y rest => simp [CarrierLink.heard]

/-- R106: the characters of a frame in assembly up to the byte that fails a header test leave the assembler hunting. -/
theorem State.hear_failing_rest (bytes : List Byte) (starts : List Nat) (k : Nat) (s : State)
    (hlen : k + starts.length = bytes.length) (hne : starts ≠ []) (hr : s.receiving = true)
    (ha : s.link.assembler = .assembling (bytes.take k)) (hf : following s.clock s.link.listenFrom starts = true)
    (hfail : headerFails bytes = true)
    (hpass : ∀ n, n < bytes.length → headerFails (bytes.take n) = false ∧ frameComplete (bytes.take n) = false) :
    s.hear (List.zipWith (fun start byte => { start := start, byte := byte, framed := true }) starts (bytes.drop k)) =
      { s with link := { s.link with assembler := .hunting, listenFrom := starts.getLastD 0 + 260 } } := by
  induction starts generalizing k s with
  | nil => exact absurd rfl hne
  | cons x rest ih =>
    simp only [List.length_cons] at hlen
    simp only [following, Bool.and_eq_true, decide_eq_true_eq] at hf
    obtain ⟨⟨⟨h1, h2⟩, h3⟩, h4⟩ := hf
    have hk : k < bytes.length := by omega
    rw [List.drop_eq_getElem_cons hk, List.zipWith_cons_cons, State.hear, List.foldl_cons,
      State.takeCharacter_of_taken s _ (by simp [State.takes, hr, h1, characterTime, h3])]
    simp only [CarrierLink.afterGap_of_le _ _ h2, ha, Assembler.take, if_true, ← List.take_succ_eq_append_getElem hk]
    cases rest with
    | nil =>
      have : bytes.take (k + 1) = bytes := List.take_of_length_le (by simp at hlen; omega)
      simp [this, assembled, hfail, characterTime]
    | cons y rest =>
      obtain ⟨e1, e2⟩ := hpass (k + 1) (by simp at hlen; omega)
      simp only [assembled, e1, e2, Bool.false_eq_true, if_false, Option.bind_none]
      have := ih (k + 1) { s with link := { s.link with
          assembler := .assembling (bytes.take (k + 1)), listenFrom := x + characterTime } }
        (by simp only [List.length_cons] at hlen ⊢; omega) (by simp) hr rfl h4
      rw [State.hear] at this
      rw [this]
      simp

/-- R106: the characters from byte 0 up to the byte that fails a header test leave the assembler hunting. -/
theorem State.hear_failing (bytes : List Byte) (starts : List Nat) (t : Nat) (s : State)
    (hlen : starts.length = bytes.length) (hready : s.startup = .ready) (h : s.hearsWhole t starts = true)
    (hfail : headerFails bytes = true)
    (hpass : ∀ n, n < bytes.length → headerFails (bytes.take n) = false ∧ frameComplete (bytes.take n) = false) :
    (s.takenAt t).hear (List.zipWith (fun start byte => { start := start, byte := byte, framed := true }) starts bytes) =
      { s with
        clock := max s.clock t
        link := { s.link with assembler := .hunting, listenFrom := starts.getLastD 0 + 260 } } := by
  have hc := State.takenAt_clock_of_ready t s hready
  have ht := State.takenAt_of_ready t s hready
  rcases starts with _ | ⟨x, rest⟩
  · simp [State.hearsWhole] at h
  rcases bytes with _ | ⟨b, more⟩
  · simp at hlen
  simp only [State.hearsWhole, Bool.and_eq_true, decide_eq_true_eq, Bool.or_eq_true, beq_iff_eq] at h
  obtain ⟨hr, ⟨⟨h1, h2⟩, h3⟩, h4⟩ := h
  have hg : (s.takenAt t).link.afterGap x = .waiting := by
    rcases h4 with h4 | h4
    · simp only [CarrierLink.afterGap, State.takenAt_link, h4, ite_self]
    · exact CarrierLink.afterGap_of_lt _ _ h4
  rw [List.zipWith_cons_cons, State.hear, List.foldl_cons,
    State.takeCharacter_of_taken _ _ (by
      simp only [State.takes, State.takenAt_link, hc, characterTime, Bool.and_eq_true, decide_eq_true_eq]
      exact ⟨⟨hr, decide_eq_true h1⟩, h2⟩)]
  simp only [hg, Assembler.take, if_true]
  cases rest with
  | nil =>
    obtain rfl : more = [] := by
      cases more with
      | nil => rfl
      | cons _ _ => simp at hlen
    simp [assembled, hfail, characterTime, ht]
  | cons y rest =>
    obtain ⟨e1, e2⟩ := hpass 1 (by simp at hlen; simp; omega)
    simp only [List.take_succ_cons, List.take_zero] at e1 e2
    simp only [assembled, e1, e2, Bool.false_eq_true, if_false, Option.bind_none]
    have := State.hear_failing_rest (b :: more) (y :: rest) 1 { s.takenAt t with link := { s.link with
        assembler := .assembling [b], listenFrom := x + characterTime } }
      (by simp at hlen ⊢; omega) (by simp) hr rfl (by rw [hc]; exact h3) hfail hpass
    rw [State.hear] at this
    simp only [List.drop_succ_cons, List.drop_zero] at this
    refine this.trans ?_
    rw [ht]
    simp

/-! ### A frame taken -/

/-- R109: a valid frame from another station is handed on. -/
theorem State.takeFrame_accepted (s : State) (f : Frame) (hv : validAddress f.source) (ho : f.source ≠ s.config.address) :
    s.takeFrame f f.crc = s.handOn f := by
  have hf : frameValid f f.crc = true := by
    simpa [frameValid, validAddress] using hv
  simp [State.takeFrame, hf, ho]

/-- R106: a frame with a wrong CRC or no valid source is dropped. -/
theorem State.takeFrame_dropped (s : State) (f : Frame) (crc : Half) (h : crc ≠ f.crc ∨ f.source = 0x0000 ∨ f.source = 0xFFFF) :
    s.takeFrame f crc = s := by
  have hf : frameValid f crc = false := by
    rcases h with h | h | h <;> simp [frameValid, h]
  simp [State.takeFrame, hf]

/-- R107: a frame from the own address. -/
theorem State.takeFrame_clash (s : State) (f : Frame) (hv : validAddress f.source) (ho : f.source = s.config.address) :
    s.takeFrame f f.crc = s.raise .addressClash := by
  have hf : frameValid f f.crc = true := by
    simpa [frameValid, validAddress] using hv
  simp [State.takeFrame, hf, ho]

@[simp] theorem State.handOn_fields (s : State) (f : Frame) :
    (s.handOn f).startup = s.startup ∧ (s.handOn f).clock = s.clock ∧ (s.handOn f).config = s.config ∧
    (s.handOn f).loadResult = s.loadResult ∧ (s.handOn f).link = s.link ∧ (s.handOn f).panto = s.panto ∧
    (s.handOn f).sweeper = s.sweeper ∧ (s.handOn f).arc = s.arc ∧ (s.handOn f).feeder = s.feeder ∧
    (s.handOn f).pending = s.pending := by
  unfold State.handOn
  split <;> simp

@[simp] theorem State.takeFrame_fields (s : State) (f : Frame) (crc : Half) :
    (s.takeFrame f crc).startup = s.startup ∧ (s.takeFrame f crc).clock = s.clock ∧ (s.takeFrame f crc).config = s.config ∧
    (s.takeFrame f crc).loadResult = s.loadResult ∧ (s.takeFrame f crc).link = s.link ∧ (s.takeFrame f crc).panto = s.panto ∧
    (s.takeFrame f crc).sweeper = s.sweeper ∧ (s.takeFrame f crc).arc = s.arc ∧ (s.takeFrame f crc).feeder = s.feeder ∧
    (s.takeFrame f crc).pending = s.pending := by
  unfold State.takeFrame
  split
  · split <;> simp
  · simp

end Sys2Proof.Machine
end

