-- ==== Sys2Proof/Tests/Slice0.lean ====
section
/-! SUPPORT. The model's own tests: what WellFormed refuses, port words written out from section 12.2, the manual's worked examples
(named in each docstring), and for every statement that has hypotheses a state that meets them. -/

namespace Sys2Proof.Tests

open Sys2Proof.Machine

/-! ### WellFormed -/

/-- R171: 0x01 is a code of the command set. -/
theorem test_known_code_is_no_unknown_command : Instr.wellFormed (.unknownCommand 0 0x01) = false := by decide
/-- R171: 0x05 is none. -/
theorem test_unknown_code_is_well_formed : Instr.wellFormed (.unknownCommand 0 0x05) = true := by decide
/-- R171: READ STATUS has no parameter byte to wait for. -/
theorem test_complete_transaction_is_not_abandoned : Instr.wellFormed (.transactionAbandoned 0 [0x01]) = false := by decide
theorem test_incomplete_transaction_is_abandoned : Instr.wellFormed (.transactionAbandoned 0 [0x10, 0x08]) = true := by decide
/-- R106: 0xA5 passes the test of byte 0. -/
theorem test_start_marker_fails_no_test : Instr.wellFormed (.headerTestFailed 260 [⟨0, 0xA5, true⟩]) = false := by decide
theorem test_length_of_another_kind_fails : Instr.wellFormed (.headerTestFailed 1304
    [⟨0, 0xA5, true⟩, ⟨261, 0x04, true⟩, ⟨522, 0x01, true⟩, ⟨783, 0x02, true⟩, ⟨1044, 13, true⟩]) = true := by decide
/-- R105: a high stop bit is no framing error, and a low one ends no run before a gap. -/
theorem test_framed_character_is_no_framing_error : Instr.wellFormed (.framingError ⟨260, [⟨0, 0xA5, true⟩]⟩) = false := by decide
theorem test_gap_follows_framed_characters : Instr.wellFormed (.receiveGapTimeout ⟨260, [⟨0, 0xA5, false⟩]⟩) = false := by decide
/-- R25: no entry has the address 0x0000 or 0xFFFF. -/
theorem test_no_entry_ages_at_zero : Instr.wellFormed (.entryBecomesStale 0 0x0000) = false := by decide
theorem test_no_entry_ages_at_ffff : Instr.wellFormed (.entryRemovedByAge 0 0xFFFF) = false := by decide

/-! ### Bytes (section 12.2, R103, R104, R112) -/

theorem test_decode_write_demand : decodeTransaction 7 false [0x10, 0x08, 0x98, 0x02] = some (.writeDemand 7 2200 2) := by decide
theorem test_decode_clear_events :
    decodeTransaction 7 false [0x03, 0x00, 0x02, 0x02, 0x88] = some (.clearEvents 7 0x00020288) := by decide
theorem test_decode_raise : decodeTransaction 7 true [0x20] = some (.raise 7 true) := by decide
theorem test_decode_unknown : decodeTransaction 7 false [0x05] = some (.unknownCommand 7 0x05) := by decide
theorem test_decode_waits_for_the_index : decodeTransaction 7 false [0x30] = none := by decide
set_option maxRecDepth 100000 in
/-- R104: the check value of "123456789". -/
theorem test_crc_check_value : crc16 [0x31, 0x32, 0x33, 0x34, 0x35, 0x36, 0x37, 0x38, 0x39] = 0x29B1 := by decide
/-- R103: a SHED of 0x0010 for 1500 ms. -/
theorem test_shed_bytes :
    (Frame.bytes ⟨0x0010, .shed ⟨1, 150⟩⟩).take 8 = [0xA5, 0x03, 0x00, 0x10, 3, 1, 0x00, 0x96] := by decide
/-- R102: the line time of a DEPART. -/
theorem test_depart_line_time : Frame.lineTime ⟨0x0102, .depart⟩ = 1823 := by decide

/-! ### States the tests start from -/

/-- The configuration of the manual's example truck (section 1.12): defaults, address 0x0102. -/
def truckConfig : Configuration := { defaultConfiguration with address := 0x0102 }

/-- A ready truck at 1 s with the cycle due, its pantograph LOWERED, a sweep under way since 0.999 s. -/
def ready : State := { State.reset with
  startup := .ready
  clock := 1000000
  config := truckConfig
  share := { ShareEngine.powerOn with cycleTimer := some 1000000 }
  link := { CarrierLink.powerOn with lfsr := 0x0102 }
  sweeper := { Sweeper.powerOn with
    conversion := .sweep 999000
    published := { codes := #v[0, 2300, 240, 240, 2000, 0, 0, 0], valid := 0xFF } }
  lim := { LimitGenerator.powerOn with nextBoundary := 1003520 }
  panto := { Pantograph.powerOn with nextBoundary := 1000050 } }

/-- The truck with the pantograph in a state. -/
def up (p : PantoState) : State := { ready with panto := { ready.panto with state := p } }

/-- The truck ACTIVE on the wire with a demand and a limit. -/
def active (demand limit : Nat) : State := { up .contact with
  share := { ready.share with phase := .active, requestedDemand := demand }
  lim := { ready.lim with limit := limit, periodValue := limit, markedValue := limit, limitOut := true } }

/-- The same with these entries in its table. -/
def among (peers : List Peer) (demand limit : Nat) : State := { active demand limit with peers := peers }

/-- The published codes of channels 0 and 1 replaced. -/
def State.reading (s : State) (current voltage : Code) : State := { s with
  sweeper := { s.sweeper with published := {
    codes := #v[current, voltage, 240, 240, 2000, 0, 0, 0], valid := s.sweeper.published.valid } } }

/-- The moments at which `n` characters sent back to back begin, the first at `x` µs. -/
def begun (n x : Nat) : Vector Nat n := ⟨((List.range n).map fun k => x + 261 * k).toArray, by simp⟩

/-- A truck entry heard `ago` ms ago, period 100 ms. -/
def truckPeer (a : Address) (ago : Nat) (demand floor weight allocation : Nat) : Peer where
  address := a
  period := 10
  lastHeard := 1000 - BitVec.ofNat 48 ago
  part := .truck {
    sharingMode := 1, weight := weight, effectiveDemand := demand, floor := floor, allocation := allocation, measured := 0
    voltage := 0 }
  becameStale := false

/-- A feeder entry heard now. -/
def feederPeer (a : Address) (capacity unaccounted : Nat) : Peer where
  address := a
  period := 10
  lastHeard := 1000
  part := .feeder { capacity := capacity, feederCurrent := 0, unaccounted := unaccounted, voltage := 0, flags := 0 }
  becameStale := false

/-- Samples of a sweep: channels 0 and 1 at every place of theirs, and both heads, the position and the rest at one value. -/
def samples (current voltage head position : Code) : Vector Code 18 :=
  #v[current, voltage, head, current, voltage, head, current, voltage, position,
     current, voltage, 0, current, voltage, 0, current, voltage, 0]

/-- A feeder of 5000 A, as section 11.6 has it. -/
def feeder : State := { ready with
  config := { defaultConfiguration with address := 0x0010, role := .feeder, capacity := 5000 }
  sweeper := { ready.sweeper with published := { codes := #v[1240, 2300, 0, 0, 0, 0, 0, 0], valid := 0xFF } } }

/-- What a command leaves, of what it leaves. -/
def after {α : Type} (i : Instr) (s : State) (view : State → α) : Option α :=
  match exec i s with
  | .next u => some (view u)
  | .fault _ => none
  | .refused _ => none

/-! ### The share computation and the limit -/

/-- Section 1.12: the feeder 0x0010 with C 5000 and U 150, trucks 0x0101 and 0x0117; floor 400, demand 2200, 2180 at channel 1. -/
def section112 : State := State.reading
  { among [feederPeer 0x0010 5000 150, truckPeer 0x0101 0 2400 400 8 0, truckPeer 0x0117 0 900 300 4 0] 2200 1700 with
    config := { truckConfig with floor := 400 } } 0 2180

/-- Section 1.12: the target is 1914 A and the limit rises by the step to 1850 A. -/
theorem test_cycle_tick_shares :
    after (.cycleTick 1000000) section112 (fun u => (u.share.budget.aSelf, u.lim.limit, u.share.budget.stage)) =
      some (1914, 1850, 2) := by decide

/-- R64: a fall is taken whole, and R71: the present period is cut. -/
theorem test_write_cap_cuts_the_period :
    after (.writeCap 1000000 300) (active 1700 1700) (fun u => (u.lim.limit, u.lim.periodValue, u.share.manualCap)) =
      some (300, 300, 300) := by decide
/-- R69: the boundary takes the limit. -/
theorem test_period_boundary :
    after (.periodBoundary 1003520) { active 1700 1700 with lim := { ready.lim with limit := 900 } }
      (fun u => (u.lim.periodValue, u.lim.limitOut, u.lim.lstbOut)) = some (900, true, true) := by decide
theorem test_limit_pulse_ends_at_its_value :
    after (.limitPulseEnd 1001124) (active 1700 1700) (fun u => u.lim.limitOut) = some false := by decide
theorem test_strobe_ends :
    after (.lstbPulseEnd 1000100) { ready with lim := { ready.lim with lstbOut := true, lstbUntil := 1000100 } }
      (fun u => u.lim.lstbOut) = some false := by decide

/-! ### The tables and the line -/

set_option maxRecDepth 100000 in
/-- R28, R30: a first DEMAND makes an entry, its period clamped. -/
theorem test_demand_received :
    after (.demandReceived 1000000 0x0105 ⟨1, 8, 99, 500, 300, 200, 0, 0⟩ ⟨Frame.crc ⟨0x0105, .demand ⟨1, 8, 99, 500, 300, 200, 0, 0⟩⟩,
        begun 20 994000⟩) ready (fun u => u.peers.map fun p => (p.address, p.period)) = some [(0x0105, 50)] := by decide
set_option maxRecDepth 100000 in
/-- R106: one bit of the CRC wrong. -/
theorem test_supply_with_a_wrong_crc :
    after (.supplyReceived 1000000 0x0010 ⟨10, 5000, 0, 0, 0, 0⟩ ⟨Frame.crc ⟨0x0010, .supply ⟨10, 5000, 0, 0, 0, 0⟩⟩ ^^^ 1,
        begun 17 994000⟩) ready (fun u => u.peers) = some [] := by decide
set_option maxRecDepth 100000 in
/-- Section 5.6: HOLD_START and the floor at the onset. -/
theorem test_shed_received :
    after (.shedReceived 1000000 0x0010 ⟨1, 150⟩ ⟨Frame.crc ⟨0x0010, .shed ⟨1, 150⟩⟩, begun 10 997000⟩) (active 1850 1850)
      (fun u => (u.lim.limit, u.port.flags, u.holds.map (·.expiry))) = some (300, 0x1000, [2500]) := by decide
set_option maxRecDepth 100000 in
theorem test_depart_received :
    after (.departReceived 1000000 0x0105 ⟨Frame.crc ⟨0x0105, .depart⟩, begun 7 998000⟩) (among [truckPeer 0x0105 0 1 1 1 1] 0 0)
      (fun u => u.peers) = some [] := by decide
set_option maxRecDepth 100000 in
/-- R105: of a DEPART of which two characters came during the own transmission, the others are no frame. -/
theorem test_frame_cut_by_the_own_transmission :
    after (.departReceived 1000000 0x0105 ⟨Frame.crc ⟨0x0105, .depart⟩, begun 7 998000⟩)
      { among [truckPeer 0x0105 0 1 1 1 1] 0 0 with link := { ready.link with listenFrom := 998500 } }
      (fun u => (u.peers.length, u.link.assembler)) = some (1, .hunting) := by decide
/-- R105: the character still arriving as the own transmission ends is byte 0; the one that ends with it is not taken. -/
theorem test_character_still_arriving :
    after (.transmissionEnd 1000000)
      { ready with link := { ready.link with transmitter := .sending ⟨0x0102, .depart⟩ 998177 } } (fun s =>
        after (.receiveGapTimeout ⟨1000001, [⟨999740, 0x00, true⟩, ⟨999741, 0xA5, true⟩]⟩) s fun u => u.link.assembler) =
      some (some (.assembling [0xA5])) := by decide
set_option maxRecDepth 100000 in
theorem test_own_address_clashes :
    after (.departReceived 1000000 0x0102 ⟨Frame.crc ⟨0x0102, .depart⟩, begun 7 998000⟩) ready (fun u => u.port.flags) = some 0x4000 := by
  decide
theorem test_hold_expires :
    after (.holdExpiry 1500000) { ready with holds := [⟨0x0010, 1500, 1⟩] } (fun u => u.holds) = some [] := by decide
theorem test_entry_removed_at_its_age :
    after (.entryRemovedByAge 1000000 0x0105) { ready with clock := 11000000, peers := [truckPeer 0x0105 0 1 1 1 1] }
      (fun u => u.peers) = some [] := by decide
theorem test_entry_stale_from_three_periods :
    after (.entryBecomesStale 4000000 0x0105) { ready with peers := [truckPeer 0x0105 0 1 1 1 1] }
      (fun u => u.peers.map (·.isFresh u.now)) = some [false] := by decide
/-- R36: taken before the transition of the same millisecond, the entry is FRESH. -/
theorem test_entry_fresh_until_the_transition : (truckPeer 0x0105 0 1 1 1 1).isFresh 4000 = true := by decide
theorem test_overflow_ends :
    after (.overflowTimerExpiry 2000000) { ready with share := { ready.share with overflowTimer := some 2000000 } }
      (fun u => u.overflowStands) = some false := by decide
/-- R114: a due frame goes out on a quiet line. -/
def waiting : State := { ready with link := { ready.link with
  periodic := some ⟨⟨0x0102, .depart⟩, 11⟩, transmitter := .waiting .periodic 1000000 } }
theorem test_frame_due_is_sent :
    after (.frameDue 1000000 false) waiting (fun u => (u.mtxen, u.link.periodic)) = some (true, none) := by decide
/-- R113: the 12th deferral drops a periodic frame, without an event. -/
theorem test_frame_due_gives_up :
    after (.frameDue 1000000 true) waiting (fun u => (u.link.transmitter, u.port.flags)) = some (.idle, 0) := by decide
theorem test_transmission_ends :
    after (.transmissionEnd 1001823) { ready with link := { ready.link with transmitter := .sending ⟨0x0102, .depart⟩ 1000000 } }
      (fun u => u.mtxen) = some false := by decide
theorem test_header_test_failed :
    after (.headerTestFailed 1000000 [⟨999000, 0xA5, true⟩, ⟨999261, 0x07, true⟩]) ready (fun u => u.link.assembler) =
      some .hunting := by decide
/-- R105: a gap of exactly 2 ms ends nothing; the characters taken before it stay in assembly. -/
theorem test_gap_of_two_ms :
    after (.receiveGapTimeout ⟨1002521, [⟨1000000, 0xA5, true⟩, ⟨1000261, 0x01, true⟩]⟩) ready (fun u => u.link.assembler) =
      some (.assembling [0xA5, 0x01]) := by decide
theorem test_gap_over_two_ms :
    after (.receiveGapTimeout ⟨1002522, [⟨1000000, 0xA5, true⟩, ⟨1000261, 0x01, true⟩]⟩) ready (fun u => u.link.assembler) =
      some .waiting := by decide
theorem test_framing_error :
    after (.framingError ⟨1000000, [⟨999000, 0x55, false⟩]⟩) ready (fun u => u.link.assembler) = some .hunting := by decide
theorem test_transmit_off_silences :
    after (.transmitOff 1000000) (active 1700 1700) (fun u => (u.mode, u.lim.limit, u.link.depart.isSome)) =
      some (.silent, 0, true) := by decide
theorem test_transmit_on :
    after (.transmitOn 1000000) { ready with link := { ready.link with txEnable := false } } (fun u => u.link.txEnable) =
      some true := by decide

/-! ### Phases and the pantograph -/

theorem test_listen_ends_in_active :
    after (.listenTimerExpiry 1600000) { up .contact with share := { ready.share with phase := .listen, listenTimer := some 1600000 } }
      (fun u => (u.share.phase, u.lim.limit)) = some (.active, 0) := by decide
/-- Section 6.7: the limit is 0 at once and a DEPART goes first. -/
theorem test_section_ahead_starts_a_crossing :
    after (.sectionAhead 1000000) (active 1914 1914) (fun u => (u.share.crossSub, u.lim.limit, u.link.transmitter)) =
      some (.drain, 0, .waiting .depart 1000000) := by decide
theorem test_sect_ahead_fall_ignored_off_the_wire :
    after (.sectAheadFall 1000000) ready (fun u => u.share.phase) = some .offline := by decide
theorem test_crossing_times_out :
    after (.crossingTimerExpiry 1000000)
      { up .contact with share := { ready.share with phase := .crossing, crossSub := .dead, crossTimer := some 1000000 } }
      (fun u => (u.share.phase, u.port.flags)) = some (.listen, 0x10000) := by decide
/-- Section 5.4: reason 2, 2000 ms, and the own hold. -/
theorem test_collapse_calls_a_shed :
    after (.collapseTimerExpiry 1000000)
      { active 1914 1914 with share := { (active 1914 1914).share with collapseTimer := some 1000000 } }
      (fun u => (u.holds, u.lim.limit, u.port.flags)) = some ([⟨0x0102, 3000, 2⟩], 300, 0x41000) := by decide
theorem test_raise_from_lowered :
    after (.raise 1000000 false) ready (fun u => (u.panto.state, u.panto.raiseTimer)) = some (.raising, some 5000000) := by
  decide
/-- R123: EMLOWER_N active refuses. -/
theorem test_raise_refused :
    after (.raise 1000000 true) ready (fun u => (u.panto.state, u.port.response)) = some (.lowered, [0x06]) := by decide
theorem test_lower_from_contact :
    after (.lower 1000000) (active 1700 1700) (fun u => (u.panto.state, u.share.phase, u.lim.limit, u.link.depart.isSome)) =
      some (.unloading, .offline, 0, true) := by decide
theorem test_clear_fault_goes_down :
    after (.clearFault 1000000) (up .faulted) (fun u => u.panto.state) = some .lowering := by decide
theorem test_contact_made :
    after (.contactQualificationExpiry 1000000)
      { up .raising with panto := { (up .raising).panto with qualTimer := some 1000000 } }
      (fun u => (u.panto.state, u.share.phase, u.panto.holdDuty)) = some (.contact, .listen, 128) := by decide
theorem test_no_wire :
    after (.raiseTimerExpiry 1000000) { up .raising with panto := { (up .raising).panto with raiseTimer := some 1000000 } }
      (fun u => (u.panto.state, u.port.flags)) = some (.lowering, 0x20) := by decide
/-- Section 8.14: the third loss within 10 s. -/
theorem test_third_loss_takes_down :
    after (.lossTimerExpiry 9180000)
      { active 500 500 with panto := { (up .contact).panto with lossTimer := some 9180000, history := [5080, 7480] } }
      (fun u => (u.panto.state, u.panto.history, u.port.flags)) = some (.unloading, [], 0x18) := by decide
/-- R133: in UNLOADING with a force channel OPEN no contact loss is counted. -/
theorem test_no_loss_with_a_force_channel_open :
    after (.lossTimerExpiry 1000000) { up .unloading with
        panto := { (up .unloading).panto with lossTimer := some 1000000 }, sweeper := { ready.sweeper with openFlags := 0x08 } }
      (fun u => (u.panto.state, u.panto.lossTimer, u.port.flags)) = some (.unloading, none, 0) := by decide
theorem test_head_imbalance :
    after (.imbalanceTimerExpiry 1000000) { up .contact with panto := { (up .contact).panto with imbalanceTimer := some 1000000 } }
      (fun u => u.port.flags) = some 0x400 := by decide
theorem test_unload_timeout :
    after (.unloadTimerExpiry 1000000) { up .unloading with panto := { (up .unloading).panto with unloadTimer := some 1000000 } }
      (fun u => (u.panto.state, u.port.flags)) = some (.lowering, 0x40) := by decide
theorem test_actuator_fault :
    after (.lowerTimerExpiry 1000000) { up .lowering with panto := { (up .lowering).panto with lowerTimer := some 1000000 } }
      (fun u => (u.panto.state, u.port.flags)) = some (.faulted, 0x80) := by decide
theorem test_emergency_lower :
    after (.emlowerNFall 1000000) (active 1700 1700) (fun u => (u.panto.state, u.lim.limit, u.port.flags)) =
      some (.lowering, 0, 0x100) := by decide
theorem test_actuator_takes_the_raise_duty :
    after (.actuatorPeriodBoundary 1000050) (up .raising) (fun u => (u.panto.dutyInForce, u.panto.actDirOut, u.panto.actPwmOut)) =
      some (220, true, true) := by decide
/-- R121: 64 of 256 steps are 12.5 µs; the pulse has ended at the 13th. -/
theorem test_actuator_pulse_ends :
    after (.actuatorPulseEnd 1000013)
      { ready with panto := { ready.panto with dutyInForce := 64, actPwmOut := true, nextBoundary := 1000050 } }
      (fun u => u.panto.actPwmOut) = some false := by decide

/-! ### The Sweeper and the Arc Monitor -/

/-- R141: means of channels 0 and 1; R127: below the window the duty is raised by the step, into the band. -/
theorem test_sweep_completes :
    after (.sweepComplete 1000000 (samples 501 2300 300 2000)) { up .contact with panto := { (up .contact).panto with holdDuty := 128 } }
      (fun u => (u.code 0, u.code 4, u.panto.holdDuty)) = some (501, 2000, 132) := by decide
/-- R147: the pair's samples, at positions 6 and 7 of this sweep, enter its means whatever the sweep brings at their places. -/
theorem test_pair_enters_the_means :
    (after (.channel0SampleHeld 999780 900) { up .contact with
        clock := 999780, sweeper := { ready.sweeper with conversion := .sweep 999640, pairRequest := some 999750 } } fun s =>
      after (.measurementPairHanded 999800 1700) s fun u =>
        after (.sweepComplete 1000000 (samples 300 2300 300 2000)) u fun u =>
          (u.code 0, u.code 1, u.sweeper.pairSamples == noSamples)) =
      some (some (some (400, 2200, true))) := by decide
/-- R143: a pull-up of 4000 and a pull-down of 95 find the channel OPEN; R133: channel 2 OPEN takes the pantograph down. -/
theorem test_open_wire_at_its_bounds :
    after (.openWireTestComplete 1000000 ⟨4000, 95⟩)
      { active 500 500 with sweeper := { ready.sweeper with conversion := .test 999960, rotation := 2, testPending := true } }
      (fun u => (u.sweeper.openFlags, u.panto.state, u.port.flags)) = some (0x04, .unloading, 0x200) := by decide
theorem test_good_wire_one_code_short :
    after (.openWireTestComplete 1000000 ⟨3999, 95⟩) { ready with sweeper := { ready.sweeper with conversion := .test 999960 } }
      (fun u => u.sweeper.openFlags) = some 0 := by decide
theorem test_arc_start :
    after (.arcStart 1000000) (up .contact) (fun u => (u.arc.pending.map (·.start), u.sweeper.conversion, u.sweeper.abortCount)) =
      some ([100000], .sweep 1000000, 1) := by decide
/-- R163, reset first: no record; R152: the sweep of the reset is restarted, and the pair request set. -/
theorem test_arc_start_in_the_instant_of_a_reset :
    after (.warmNFall 1000000) (up .contact) (fun s => after (.arcStart 1000000) s fun u =>
      (u.arc.pending, u.sweeper.abortCount, u.sweeper.pairRequest)) = some (some ([], 1, some 1000000)) := by decide
theorem test_arc_ends :
    after (.arcEnd 1000150) { up .contact with arc := { ArcMonitor.powerOn with pending := [newArc 100000] } }
      (fun u => u.arc.pending.map (·.duration)) = some [some 15] := by decide
theorem test_arc_saturates :
    after (.arcSaturation 1655350) { up .contact with arc := { ArcMonitor.powerOn with pending := [newArc 100000] } }
      (fun u => u.arc.pending.map (·.duration)) = some [some 65535] := by decide
/-- R147: the first channel 0 conversion begun after the request, of a sweep begun with it. -/
theorem test_channel_0_sample_held :
    after (.channel0SampleHeld 999020 900) { up .contact with
      clock := 999000, sweeper := { ready.sweeper with pairRequest := some 999000 } }
      (fun u => u.sweeper.heldSample) = some (some ⟨900, 999000, 999020⟩) := by decide
/-- R163, start first: the start's record receives the pair that is formed in the same instant, and the pair request is set again. -/
theorem test_start_before_the_pair :
    after (.arcStart 1000000) { up .contact with
        sweeper := { ready.sweeper with heldSample := some ⟨900, 999960, 999980⟩, pairRequest := some 999960 } }
      (fun s => after (.measurementPairHanded 1000000 2010) s fun u =>
        (u.arc.pending.map fun r => (r.current, r.voltage), u.sweeper.pairRequest)) =
      some (some ([(some 900, some 2010)], some 1000000)) := by decide
theorem test_pair_completes_a_record :
    after (.measurementPairHanded 1000000 2010) { up .contact with
      arc := { ArcMonitor.powerOn with pending := [{ newArc 99990 with duration := some 15 }] }
      sweeper := { ready.sweeper with heldSample := some ⟨900, 999960, 999980⟩, pairRequest := some 999960 } }
      (fun u => (u.arc.pending, u.arc.log.map fun r => (r.current, r.voltage))) = some ([], [(some 900, some 2010)]) := by decide

/-! ### The feeder (section 11.6) -/

theorem test_overload_is_called :
    after (.overTimerExpiry 1000000) { feeder with feeder := { FeederLogic.powerOn with overload := .over, overTimer := some 1000000 } }
      (fun u => (u.feeder.overload, u.link.shed.map (·.frame.payload), u.port.flags)) =
      some (.shedding, some (.shed ⟨1, 150⟩), 0xC0000) := by decide
/-- 4960 A lies between the thresholds 4375 A and 5312 A: the repeat lapses. -/
theorem test_repeat_lapses :
    after (.repeatTimerExpiry 1000000)
      { feeder with feeder := { FeederLogic.powerOn with overload := .shedding, repeatTimer := some 1000000 } }
      (fun u => (u.feeder.repeatLapsed, u.link.shed)) = some (true, none) := by decide
theorem test_release_is_called :
    after (.releaseTimerExpiry 1000000)
      { feeder with feeder := { FeederLogic.powerOn with overload := .shedding, releaseTimer := some 1000000 } }
      (fun u => (u.feeder.overload, u.link.shed.map (·.frame.payload))) = some (.normal, some (.shed ⟨1, 0⟩)) := by decide
/-- R165's example: 4960 A less 2036, 1850 and 900 A is 174 A. -/
theorem test_supply_announces_the_unaccounted :
    State.unaccounted { feeder with peers := [2036, 1850, 900].map fun m =>
      ⟨0x0101, 10, 1000, .truck { sharingMode := 1, weight := 1, effectiveDemand := 0, floor := 0, allocation := 0
                                  measured := m, voltage := 0 }, false⟩ } = 174 := by decide

/-! ### The truck port and start-up -/

/-- R172: the byte of each field. -/
theorem test_read_status :
    after (.readStatus 1000000) (active 1700 1850) (fun u => u.port.response) =
      some [0x00, 2, 2, 1, 0, 0x07, 0x3A, 0, 0, 0, 0, 0] := by decide
/-- R176, R177: a flag raised since the last read is not cleared. -/
theorem test_read_events_empties_the_fresh_set :
    after (.readEvents 1000000) { ready with port := { ready.port with flags := 0x1008, fresh := 0x1000 } }
      (fun u => (u.port.response, u.port.fresh)) = some ([0x00, 0, 0, 0x10, 0x08, 0, 0, 0x10, 0], 0) := by decide
theorem test_clear_events_leaves_the_fresh :
    after (.clearEvents 1000000 0xFFFFFFFF) { ready with port := { ready.port with flags := 0x1008, fresh := 0x1000 } }
      (fun u => u.port.flags) = some 0x1000 := by decide
theorem test_write_event_mask :
    after (.writeEventMask 1000000 0x8) { ready with port := { ready.port with flags := 0x8 } } (fun u => u.alertN) = some false := by
  decide
theorem test_write_demand_clamps :
    after (.writeDemand 1000000 0xFFFF 3) ready (fun u => (u.share.requestedDemand, u.share.demandClass)) = some (4095, 3) := by
  decide
theorem test_write_demand_of_class_4 :
    after (.writeDemand 1000000 100 4) ready (fun u => (u.share.requestedDemand, u.port.response)) = some (0, [0x03]) := by decide
theorem test_read_peer_beyond_the_table :
    after (.readPeer 1000000 12) ready (fun u => u.port.response) = some [0x03] := by decide
theorem test_read_budget_after_reset :
    after (.readBudget 1000000) ready (fun u => u.port.response) = some (List.replicate 23 0) := by decide
theorem test_read_holds :
    after (.readHolds 1000000) { ready with holds := [⟨0x0010, 2500, 1⟩] } (fun u => u.port.response.take 7) =
      some [0x00, 1, 0x00, 0x10, 1, 0x05, 0xDC] := by decide
theorem test_read_arc_empty : after (.readArc 1000000 15) ready (fun u => u.port.response) = some (List.replicate 12 0) := by decide
theorem test_read_measurements :
    after (.readMeasurements 1000000) ready (fun u => u.port.response.take 5) = some [0x00, 0, 0, 0x08, 0xFC] := by decide
/-- R180: bytes 0 to 8 of the defaults at address 0x0102. -/
theorem test_read_config :
    after (.readConfig 1000000) ready (fun u => u.port.response.take 10) =
      some [0x00, 1, 0x01, 0x02, 0x32, 10, 0x02, 0x58, 0x84, 0x21] := by decide
theorem test_read_identity :
    after (.readIdentity 1000000) ready (fun u => u.port.response) = some [0x00, 0x7A, 0x48, 0x01, 0, 0, 0] := by decide
theorem test_unknown_command : after (.unknownCommand 1000000 0x05) ready (fun u => u.port.response) = some [0x02] := by decide
theorem test_not_ready : after (.readStatus 0) State.reset (fun u => u.port.response) = some [0x01] := by decide
theorem test_transaction_abandoned :
    after (.transactionAbandoned 1000000 [0x10]) (ready.answer .ok [7]) (fun u => (u.share.requestedDemand, u.port.response)) =
      some (0, []) := by decide
/-- R171: after two bytes of 0xFF the status byte comes first, and past the end 0x00. -/
theorem test_miso_waits_for_the_response :
    [0, 1, 2, 3, 4].map ((ready.answer .busy [7]).misoByte 2) = [0xFF, 0xFF, 0x04, 0x07, 0x00] := by decide
theorem test_power_on_reset : after .powerOnReset ready (fun u => u.startup) = some .held := by decide
theorem test_reset_release : after .resetNRelease { ready with startup := .held } (fun u => u.startup) = some .loading := by decide
/-- R179: a read that did not complete. -/
theorem test_load_without_a_block :
    after (.configurationLoadEnd none) State.reset (fun u => (u.loadResult, u.config.address, u.port.flags)) =
      some (.notRead, 0, 1) := by decide
/-- Section 12.6: a V_knee of 1650 below V_min 1700 is taken as 1800. -/
theorem test_load_corrects_the_knee : (correctKnee { truckConfig with vKnee := 1650 }).vKnee = 1800 := by decide
/-- Section 12.6: no channel OPEN, position 120: LOWERED, and the word 0. -/
theorem test_selfcheck_end :
    after (.selfcheckEnd 680 (Vector.replicate 8 ⟨2000, 2000⟩) (samples 0 2300 0 120))
      { State.reset with startup := .selfCheck, config := truckConfig }
      (fun u => (u.startup, u.panto.state, u.sweeper.selfCheckWord, u.share.cycleTimer)) =
      some (.ready, .lowered, 0, some 100680) := by decide
/-- R141, R166: the first set of a feeder reads 5400 A, above the 5312 A of section 11.6. -/
theorem test_selfcheck_end_on_a_feeder :
    after (.selfcheckEnd 680 (Vector.replicate 8 ⟨2000, 2000⟩) (samples 1350 2300 0 0))
      { State.reset with startup := .selfCheck, config := feeder.config } (fun u => u.feeder.overTimer) = some (some 200680) := by decide
theorem test_warm_reset_waits : after (.warmReset 1000000) (active 1700 1700) (fun u => u.lim.limit) = some 1700 := by decide
/-- R137: from CONTACT to UNLOADING, and no DEPART. -/
theorem test_warm_reset_taken :
    after (.warmResetTaken 1000000) { active 1700 1700 with port := { ready.port with warmResetRequested := true } }
      (fun u => (u.panto.state, u.lim.limit, u.link.depart)) = some (.unloading, 0, none) := by decide
theorem test_warm_n_fall : after (.warmNFall 1000000) (active 1700 1700) (fun u => u.share.requestedDemand) = some 0 := by decide

/-! ### Witnesses: states and operands that meet the hypotheses of the statements, clause by clause at the ends of their ranges -/

/-- `s` with channel `n` OPEN. -/
def opened (n : Nat) (s : State) : State := { s with sweeper := { s.sweeper with openFlags := 1#8 <<< n } }

/-- `s` with its clock at `clock`. -/
def atClock (clock : Nat) (s : State) : State := { s with clock := clock }

/-- The pantograph of `up p` changed. -/
def upWith (p : PantoState) (f : Pantograph → Pantograph) : State := { up p with panto := f (up p).panto }

/-- Twelve truck entries heard `ago` ms ago. -/
def twelve (ago : Nat) : List Peer :=
  [1, 2, 3, 4, 5, 6, 7, 8, 9, 10, 11, 12].map fun k => truckPeer (BitVec.ofNat 16 (0x0200 + k)) ago 1000 400 8 900

/-- A truck sharing with a limit above its target, with its tick due. -/
def sharing : State := { active 500 1700 with
  share := { (active 500 1700).share with budget := { BudgetRecord.empty with dSelf := 1700 } }
  pending := [.cycleTick 1000000] }

theorem witness_TimePassesOnAnEmptyQueue :
    (State.reset.pending = [] ∧ State.reset.running = false) ∧ ready.pending = [] ∧ ready.running = true := by decide

theorem form_of_truckConfig : configForm truckConfig := by unfold configForm; decide

theorem form_of_sharing : sharing.Formed where
  table := ⟨by decide, by decide, nofun⟩
  holds := ⟨by decide, by decide, nofun⟩
  arcs := ⟨by decide, by decide, nofun, nofun⟩
  link := ⟨nofun, nofun, nofun, rfl, rfl, rfl⟩
  timers := by unfold timerForm; decide
  phase := by unfold phaseForm; decide
  overload := by unfold overloadForm; decide
  flags := by unfold flagForm; decide
  config := form_of_truckConfig
  startup := ⟨nofun, nofun⟩
  sweeps := by decide
  written := by decide
  ownShed := by decide
  receiver := ⟨by decide, nofun⟩
  roles := ⟨nofun, fun _ => rfl⟩

theorem limits_of_sharing : sharing.LimitLaws where
  rating := by decide
  manual := by decide
  demand := by decide
  zero h := absurd ⟨rfl, rfl, by decide⟩ h
  floor h := by rcases h with h | h | h <;> exact absurd h (by decide)
  pulse := by decide
  onWire _ := by decide

/-- For `FormIsKeptByEveryStep` and `LimitLawsAreKeptByEveryStep`. -/
theorem witness_of_the_invariants : sharing.Formed ∧ sharing.LimitLaws ∧ ∃ u, step sharing = .next u :=
  ⟨form_of_sharing, limits_of_sharing, _, rfl⟩

theorem witness_OnlyNamedCommandsChangeLastingState :
    (∃ u, exec (.readStatus 1000000) ready = .next u) ∧ Instr.readStatus 1000000 ≠ .powerOnReset ∧
    Instr.readStatus 1000000 ≠ .resetNRelease ∧ (∀ b, Instr.readStatus 1000000 ≠ .configurationLoadEnd b) ∧
    (∀ t tests samples, Instr.readStatus 1000000 ≠ .selfcheckEnd t tests samples) ∧
    (∀ t, Instr.readStatus 1000000 ≠ .transmitOn t) ∧ (∀ t, Instr.readStatus 1000000 ≠ .transmitOff t) ∧
    (∀ t m, Instr.readStatus 1000000 ≠ .writeEventMask t m) ∧ (∀ t a d r, Instr.readStatus 1000000 ≠ .demandReceived t a d r) ∧
    (∀ t a d r, Instr.readStatus 1000000 ≠ .supplyReceived t a d r) ∧
    (∀ t a d r, Instr.readStatus 1000000 ≠ .shedReceived t a d r) ∧
    (∀ t a r, Instr.readStatus 1000000 ≠ .departReceived t a r) ∧
    (∀ l, Instr.readStatus 1000000 ≠ .receiveGapTimeout l) ∧ (∀ l, Instr.readStatus 1000000 ≠ .framingError l) ∧
    (∀ t l, Instr.readStatus 1000000 ≠ .headerTestFailed t l) ∧ (∀ t b, Instr.readStatus 1000000 ≠ .frameDue t b) ∧
    ∀ t, Instr.readStatus 1000000 ≠ .transmissionEnd t :=
  ⟨⟨_, rfl⟩, nofun, nofun, nofun, nofun, nofun, nofun, nofun, nofun, nofun, nofun, nofun, nofun, nofun, nofun, nofun, nofun⟩

theorem witness_DroopCapFollowsTheVoltage :
    truckConfig.vMin < truckConfig.vKnee ∧ truckConfig.rating ≤ 4095 ∧ (opened 1 ready).openChannel 1 = true ∧
    ready.openChannel 1 = false ∧ truckConfig.vKnee ≤ (State.reading ready 0 2200).code 1 ∧
    (State.reading ready 0 1700).code 1 ≤ truckConfig.vMin ∧
    (truckConfig.vMin < (State.reading ready 0 1701).code 1 ∧ (State.reading ready 0 1701).code 1 < truckConfig.vKnee) ∧
    (State.reading ready 0 2199).code 1 < truckConfig.vKnee ∧
    ready.config = truckConfig ∧ (State.reading ready 0 2200).droop = 256 ∧ (State.reading ready 0 1700).droop = 0 := by decide

theorem witness_EffectiveDemandIsTheLesserOfDemandAndCap :
    (active 4095 0).share.requestedDemand ≤ 4095 ∧
    ((active 4095 0).holds = [] ∧ (active 4095 0).overflowStands = false ∧ (active 4095 0).openChannel 0 = false ∧
      (active 4095 0).openChannel 1 = false ∧ (active 4095 0).arc.storm = false) ∧
    (opened 0 (active 4095 0)).openChannel 0 = true := by decide

theorem witness_LowestFreshFeederSuppliesTheBudget :
    let low := feederPeer 0x0010 5000 150
    let s := among [low, feederPeer 0x0011 4000 0] 0 0
    s.peers.Pairwise (fun p q => p.address.toNat < q.address.toNat) ∧ low ∈ s.peers ∧ low.isFresh s.now = true ∧
    (∃ d, low.part = .feeder d) ∧
    (∀ q ∈ s.peers, q.isFresh s.now = true → low.address.toNat ≤ q.address.toNat) ∧
    ∀ q ∈ (among [] 0 0).peers, q.isFresh s.now = false := by
  refine ⟨by decide, by decide, by decide, ⟨_, rfl⟩, by decide, by decide⟩

theorem form_of_twelve (ago : Nat) : tableForm 0x0102 (twelve ago) := by
  refine ⟨by simp [twelve], ?_, ?_⟩
  · simp [twelve, truckPeer]
  · simp [twelve, truckPeer, validAddress, Peer.inRange]

/-- Two sharers of demand 500 and 300 with floors 400, and weights 8 and 15. -/
def twoSharers : List Sharer := [⟨true, 0x0102, 500, 400, 8⟩, ⟨false, 0x0117, 300, 400, 15⟩]

/-- For `ScarceBudgetIsDividedByFloors`, `SharersStandInOrderOfRatio` and `WaterFillSpendsTheBudgetOnDemands`. -/
theorem witness_of_the_division :
    699 < securedSum twoSharers ∧ securedSum twoSharers ≤ 700 ∧ (∀ i ∈ twoSharers, i.floor ≤ 1023) ∧
    (∀ i ∈ twoSharers, 1 ≤ i.weight) ∧ twoSharers.Pairwise (fun i j => i.address ≠ j.address) ∧
    ∃ p ∈ (divideBudget 700 twoSharers).portions, p.amount < p.sharer.demand := by decide

theorem witness_EveryComputationKeepsWithinTheBudget :
    (∀ i ∈ section112.sharers, 1 ≤ i.weight) ∧ (opened 0 (active 2200 0)).floorInForce = true ∧
    ∀ i ∈ (opened 0 (active 2200 0)).sharers, 1 ≤ i.weight := by decide

/-- An entry of age 3001 ms and period 100 ms is STALE. -/
theorem witness_StationAloneTakesTheLesserOfDemandAndBudget :
    let s := atClock 4001000 (among (twelve 0) 0 0)
    1 ≤ s.ownWeight ∧ ∀ p ∈ s.peers, p.isFresh s.now = false := by decide

theorem witness_TickInActiveComputesTheShare :
    let s := among (twelve 0) 2200 1700
    s.startup = .ready ∧ s.isTruck = true ∧ s.share.phase = .active ∧ s.mode ≠ .silent ∧
    s.share.cycleTimer = some 1000000 ∧ 1000000 ≤ max s.clock 1000000 ∧ 1 ≤ s.config.period := by decide

theorem witness_TickWithoutComputationQueuesNothing :
    let s := { active 2200 0 with link := { ready.link with txEnable := false } }
    (s.startup = .ready ∧ s.isTruck = true ∧ s.share.cycleTimer = some 1000000 ∧ 1000000 ≤ max s.clock 0 ∧
      s.share.phase = .active ∧ s.mode = .silent ∧ 1 ≤ s.config.period) ∧ max s.clock 1000000 < 1000000 + 10000 * s.config.period ∧
    ready.startup = .ready ∧ ready.isTruck = true ∧ ready.share.cycleTimer = some 1000000 ∧ ready.share.phase ≠ .active := by
  decide

theorem witness_FeederTickQueuesItsSupply :
    (feeder.startup = .ready ∧ feeder.isTruck = false ∧ feeder.share.cycleTimer = some 1000000 ∧ 1000000 ≤ max feeder.clock 0 ∧
      1 ≤ feeder.config.period ∧ feeder.clock < 1000000 + 10000 * feeder.config.period) ∧
    (feeder.link.txEnable = true ∧ feeder.config.address ≠ 0) ∧
    { feeder with config := { feeder.config with address := 0 } }.config.address = 0 := by decide

/-- A rise to 1701, a fall to 1700; the period value is the limit. -/
theorem witness_TargetIsRampedUpAndFallsWhole :
    let s := active 2200 1700
    s.lim.limit < 1701 ∧ 1700 ≤ s.lim.limit ∧ s.lim.periodValue ≤ s.lim.limit := by decide

theorem witness_ImmediateCapOnlyLowersTheLimit :
    let s := active 2200 1700
    let low := { s with lim := { s.lim with periodValue := 1699 } }
    let off := { s with config := { s.config with strobeMode := .off } }
    s.lim.limit ≤ 1700 ∧ (1699 < low.lim.limit ∧ low.lim.periodValue ≤ 1699) ∧
    (1699 < s.lim.limit ∧ 1699 < s.lim.periodValue ∧ s.config.strobeMode ≠ .off) ∧ off.config.strobeMode = .off := by decide

/-- Also for `TransmitCommandsSilenceAndRelease`, `PortReadsReportWhatStands`, `EventFlagsAreClearedOnlyOnceRead` and
`WriteCapStoresAndCapsAtOnce`: a ready part, and those whose clauses ask more. -/
theorem witness_of_the_port :
    ready.startup = .ready ∧ ready.link.txEnable = true ∧
    ((active 1700 1700).isTruck = true ∧ (active 1700 1700).share.phase = .active ∧ (active 1700 1700).config.address ≠ 0) ∧
    { active 0 0 with config := defaultConfiguration }.config.address = 0 ∧
    { ready with link := { ready.link with txEnable := false } }.link.txEnable = false ∧
    (feeder.startup = .ready ∧ feeder.isTruck = false) ∧
    12 ≤ (12 : Byte).toNat ∧ (among (twelve 0) 0 0).peers[(11 : Byte).toNat]? ≠ none ∧
    ready.peers.length ≤ (0 : Byte).toNat ∧ 16 ≤ (16 : Byte).toNat ∧ ready.arc.log.length ≤ (15 : Byte).toNat ∧
    4 ≤ (4 : Byte).toNat ∧ ((3 : Fin 4).val = (3 : Byte).toNat) ∧ ready.holds.length ≤ 4 := by decide

theorem witness_LimitOutputFollowsThePeriod :
    let s := atClock 1003519 (active 1700 1700)
    s.startup = .ready ∧ s.lim.nextBoundary ≤ max s.clock 1003520 ∧
    (s.lim.limitOut = true ∧ s.lim.nextBoundary + s.lim.periodValue ≤ max s.clock 0 + 4096) ∧
    (max 1000000 1001123 + 4096 < (active 1700 1700).lim.nextBoundary + (active 1700 1700).lim.periodValue) ∧
    ((0 < s.lim.limit) ∧ s.config.strobeMode ≠ .off ∧ s.lim.limit = s.lim.markedValue) ∧
    let strobing := { s with lim := { s.lim with lstbOut := true, lstbUntil := 1003520, markedValue := 1699 } }
    (strobing.lim.lstbOut = true ∧ strobing.lim.lstbUntil ≤ max strobing.clock 1003520) ∧
    max strobing.clock 1003519 < strobing.lim.lstbUntil ∧ strobing.lim.limit ≠ strobing.lim.markedValue := by decide

/-- A known sender, and a table of eleven. -/
theorem witness_AcceptedFrameUpdatesOrInsertsItsSender :
    ready.startup = .ready ∧ ready.hearsWhole 1000000 (begun 20 994000).toList = true ∧
    ready.hearsWhole 1000000 (begun 17 994000).toList = true ∧ validAddress 0x0201 ∧
    (0x0201 : Address) ≠ ready.config.address ∧ tableForm ready.config.address (among (twelve 0) 0 0).peers ∧
    (∃ q ∈ (among (twelve 0) 0 0).peers, q.address = 0x0201) ∧ (twelve 0).tail.length < 12 ∧
    (∀ q ∈ (twelve 0).tail, q.address ≠ 0x0201) ∧ tableForm ready.config.address (twelve 0).tail :=
  ⟨by decide, by decide, by decide, by unfold validAddress; decide, by decide, form_of_twelve 0, by decide, by decide, by decide,
    by decide, (form_of_twelve 0).2.1.tail, fun p h => (form_of_twelve 0).2.2 p (List.mem_of_mem_tail h)⟩

/-- Twelve entries just STALE, of equal ages; and twelve still FRESH, the transition of that millisecond not yet taken. -/
theorem witness_FullTableEvictsTheOldestOrRefuses :
    let s := atClock 4001000 (among (twelve 0) 0 0)
    let fresh := atClock 4000999 (among (twelve 0) 0 0)
    s.startup = .ready ∧ s.hearsWhole 0 (begun 20 3994000).toList = true ∧ fresh.hearsWhole 0 (begun 17 3994000).toList = true ∧ validAddress 0x0200 ∧
    (0x0200 : Address) ≠ s.config.address ∧ tableForm s.config.address s.peers ∧ (∀ q ∈ s.peers, q.address ≠ 0x0200) ∧
    s.peers.length = 12 ∧
    (∃ v ∈ s.peers, v.isFresh (s.takenAt 0).now = false ∧
      ∀ q ∈ s.peers, q.isFresh (s.takenAt 0).now = false → q.age (s.takenAt 0).now ≤ v.age (s.takenAt 0).now ∧
        (q.age (s.takenAt 0).now = v.age (s.takenAt 0).now → v.address.toNat ≤ q.address.toNat)) ∧
    (∀ q ∈ fresh.peers, q.isFresh (fresh.takenAt 0).now = true) ∧ fresh.isTruck = true ∧ fresh.degradedStands = false ∧
    (opened 0 fresh).degradedStands = true ∧ { fresh with config := feeder.config }.isTruck = false :=
  ⟨by decide, by decide, by decide, by unfold validAddress; decide, by decide, form_of_twelve 0, by decide, by decide,
    by decide, by decide, by decide, by decide, by decide, by decide⟩

/-- Hunting, transmitting and waiting; the own address and the two that are none. -/
theorem witness_DroppedFramesReachNoTable :
    let sending := { ready with link := { ready.link with transmitter := .sending ⟨0x0102, .depart⟩ 1000000 } }
    let hunting := { ready with link := { ready.link with assembler := .hunting, listenFrom := 996000 } }
    (ready.startup = .ready ∧ ready.mtxen = false ∧ ready.link.assembler = .waiting ∧ ready.config.address = 0x0102 ∧
      (0x0102 : Address) ≠ 0x0000 ∧ (0x0102 : Address) ≠ 0xFFFF) ∧
    (ready.receiving = true ∧ ready.link.listenFrom ≤ 0 ∧ 999740 + 260 ≤ ready.clock ∧
      headerFails ([0xA5, 0x01, 0, 0] ++ [13]) = false ∧ ([0xA5, 0x01, 0, 0] : List Byte).length < 6 + 13) ∧
    (ready.hearsWhole 1000000 (begun 7 998000).toList = true ∧ ready.hearsWhole 0 [999740] = true ∧
      ready.hearsWhole 0 [997480, 999740] = true ∧ ready.hearsWhole 0 [0, 260, 520, 780, 1040] = true) ∧
    (hunting.link.assembler = .hunting ∧ hunting.mtxen = false ∧
      following (max hunting.clock 0) hunting.link.listenFrom (begun 7 998000).toList = true ∧
      hunting.link.listenFrom + 2000 < max hunting.clock 0 ∧ max 998000 0 ≤ hunting.link.listenFrom + 2000 ∧
      ∀ x ∈ (begun 7 994000).toList, x < hunting.link.listenFrom) ∧
    sending.mtxen = true ∧ { ready with link := { ready.link with assembler := .hunting } }.link.assembler = .hunting ∧
    (0xA4 : Byte) ≠ 0xA5 ∧ ((0x05 : Byte) ≠ 0x01 ∧ (0x05 : Byte) ≠ 0x02 ∧ (0x05 : Byte) ≠ 0x03 ∧ (0x05 : Byte) ≠ 0x04) ∧
    (12 : Byte) ≠ 13 := by decide

/-- Also for `ShedPlacesItsHold` and `HoldsEndByReleaseOrExpiry`: the ends of the valid addresses. -/
theorem witness_DepartRemovesItsSender :
    ready.startup = .ready ∧ ready.hearsWhole 0 (begun 7 998000).toList = true ∧ ready.isTruck = true ∧
    ready.hearsWhole 0 (begun 10 997000).toList = true ∧ feeder.isTruck = false ∧
    feeder.hearsWhole 0 (begun 10 997000).toList = true ∧
    validAddress 0x0001 ∧ (0x0001 : Address) ≠ ready.config.address ∧ validAddress 0xFFFE ∧
    (0xFFFE : Address) ≠ ready.config.address := by
  unfold validAddress; decide

theorem witness_EntriesAgeAndTheOverflowEnds :
    let s := { among (twelve 0) 0 0 with share := { ready.share with overflowTimer := some 1000001 } }
    s.startup = .ready ∧ truckPeer 0x0201 0 1000 400 8 900 ∈ s.peers ∧
    (((2999 : Reading) - 0).toNat < 300 * 10 ∧ 300 * 10 < ((3001 : Reading) - 0).toNat ∧ ((3000 : Reading) - 0).toNat = 300 * 10) ∧
    s.share.overflowTimer = some 1000001 ∧
    1000001 ≤ max s.clock 1000001 ∧ max s.clock 1000000 < 1000001 := by decide

/-- Four holds, the first ending at 1500 ms. -/
def fourHolds : List Hold := [⟨0x0010, 1500, 1⟩, ⟨0x0011, 1600, 1⟩, ⟨0x0012, 1700, 2⟩, ⟨0x0013, 1700, 2⟩]

/-- A hold of 510 ms outlasts the first, one of 500 ms does not; three holds leave room; the origin 0x0010 has its hold. -/
theorem witness_ShedPlacesItsHold :
    let s := { active 1700 1700 with holds := fourHolds }
    (holdForm s.holds ∧ (51 : Half) ≠ 0 ∧ (∀ q ∈ s.holds, q.origin ≠ 0x0001) ∧ s.holds = ⟨0x0010, 1500, 1⟩ :: fourHolds.tail ∧
      fourHolds.tail.length = 3) ∧
    (∀ h ∈ s.holds, (h.expiry - (s.takenAt 0).now).toNat ≤ 5000) ∧
    (((1500 : Reading) - (s.takenAt 0).now).toNat < 10 * min 500 (51 : Half).toNat) ∧
    (10 * min 500 (50 : Half).toNat ≤ ((1500 : Reading) - (s.takenAt 0).now).toNat) ∧
    fourHolds.tail.length < 4 ∧ (∃ q ∈ s.holds, q.origin = 0x0010) ∧ ready.holds = [] := by
  unfold holdForm validAddress; decide

/-- At its expiry and 1 ms before. -/
theorem witness_HoldsEndByReleaseOrExpiry :
    let s := { atClock 1500000 ready with holds := fourHolds }
    (s.startup = .ready ∧ s.holds = ⟨0x0010, 1500, 1⟩ :: fourHolds.tail ∧ (s.takenAt 0).now = 1500) ∧
    ((1500 : Reading) - ((atClock 1499999 s).takenAt 0).now).toNat = 1 := by decide

theorem witness_HoldListKeepsItsOrder :
    holdForm fourHolds ∧ (∀ h ∈ fourHolds, (h.expiry - (1000 : Reading)).toNat ≤ 5000) ∧
    fourHolds.Pairwise (fun a b => (a.expiry - (1000 : Reading)).toNat < (b.expiry - (1000 : Reading)).toNat ∨
      (a.expiry - (1000 : Reading)).toNat = (b.expiry - (1000 : Reading)).toNat ∧ a.origin.toNat < b.origin.toNat) := by
  unfold holdForm validAddress; decide

theorem witness_ContactLeadsThroughListenToActive :
    let s := upWith .raising fun p => { p with qualTimer := some 1000001 }
    let l := { up .contact with share := { ready.share with phase := .listen, listenTimer := some 1000001 } }
    (s.startup = .ready ∧ s.panto.state = .raising ∧ s.panto.qualTimer = some 1000001 ∧ 1000001 ≤ max s.clock 1000001 ∧
      s.isTruck = true ∧ s.share.phase = .offline) ∧
    (l.startup = .ready ∧ l.share.phase = .listen ∧ l.share.listenTimer = some 1000001 ∧ max l.clock 1000000 < 1000001) := by
  decide

theorem witness_CrossingRequestActsInActiveAlone :
    let s := active 1700 1700
    (s.startup = .ready ∧ s.isTruck = true ∧ s.share.phase = .active ∧ s.mode ≠ .silent) ∧
    { s with link := { s.link with txEnable := false } }.mode = .silent ∧ ready.share.phase ≠ .active := by decide

/-- A truck crossing, in a sub-state, with a sweep begun at 0.999 s. -/
def crossing (sub : CrossSub) : State := { up .contact with
  share := { ready.share with phase := .crossing, crossSub := sub, crossTimer := some 1000001 } }

theorem witness_CrossingTimesOutToListen :
    let s := crossing .dead
    s.startup = .ready ∧ s.share.phase = .crossing ∧ s.share.crossTimer = some 1000001 ∧ 1000001 ≤ max s.clock 1000001 ∧
    max s.clock 1000000 < 1000001 := by decide

/-- Drained at the release current 40 and not at 41; dead at 299 and not at 300; live at 1700 and not at 1699. -/
theorem witness_SetsCarryTheCrossingForward :
    let s := crossing .dead
    let n (current voltage : Code) : State := { s.takenAt 0 with
      sweeper := (s.sweeper.publish (samples current voltage 300 2000)).finishSweep (max s.clock 0) }
    (s.startup = .ready ∧ s.isTruck = true ∧ s.share.phase = .crossing ∧ s.panto.state = .contact ∧
      s.sweeper.conversion = .sweep 999000 ∧ 999000 + 360 ≤ max s.clock 0 ∧ s.share.crossSub = .dead) ∧
    ((n 0 1700).validChannel 1 = true ∧ s.config.vMin ≤ (n 0 1700).code 1 ∧ (n 0 1699).code 1 < s.config.vMin) ∧
    ((n 40 299).code 0 ≤ s.config.releaseCurrent ∧ s.config.releaseCurrent < (n 41 299).code 0) ∧
    ((n 40 299).code 1 < s.config.vDead ∧ s.config.vDead ≤ (n 40 300).code 1) := by decide

/-- Below V_collapse at 1399; at it; V_min at 1700. -/
theorem witness_SetsDriveTheCollapseTimer :
    let s := State.reading (active 1700 1700) 0 1399
    let running := { s with share := { s.share with collapseTimer := some 1 } }
    let episodic := { s with share := { s.share with episode := true } }
    (s.isTruck = true ∧ s.share.phase ≠ .crossing ∧ s.validChannel 1 = true ∧ s.code 1 < s.config.vCollapse ∧
      s.share.collapseTimer = none ∧ s.share.phase = .active ∧ s.mode ≠ .silent ∧ s.share.episode = false) ∧
    running.share.collapseTimer ≠ none ∧ episodic.share.episode = true ∧
    s.config.vCollapse ≤ (State.reading s 0 1400).code 1 ∧ s.config.vMin ≤ (State.reading s 0 1700).code 1 ∧
    ¬ (s.validChannel 1 = true ∧ s.config.vMin ≤ (State.reading s 0 1699).code 1) := by decide

theorem witness_CollapseCallsTheOwnShed :
    let s := active 1700 1700
    let c := { s with share := { s.share with collapseTimer := some 1000001 } }
    (c.startup = .ready ∧ c.isTruck = true ∧ c.share.collapseTimer = some 1000001 ∧ 1000001 ≤ max c.clock 1000001 ∧
      c.link.txEnable = true ∧ c.config.address ≠ 0 ∧ 100 ≤ c.config.collapseHold ∧ c.config.collapseHold ≤ 5000 ∧
      c.holds = []) ∧
    { c with holds := fourHolds }.holds ≠ [] := by decide

theorem witness_TakingThePantographDownEndsSharing :
    let s := active 1700 1700
    (s.startup = .ready ∧ s.isTruck = true ∧ s.panto.state = .contact ∧ s.share.phase = .active ∧ s.mode ≠ .silent) ∧
    (up .contact).share.phase ≠ .active := by decide

theorem witness_PantographCommandsAreTakenByState :
    let f := opened 4 (up .faulted)
    let high := { up .faulted with sweeper := { ready.sweeper with published := {
      codes := #v[0, 0, 0, 0, 151, 0, 0, 0], valid := 0xFF } } }
    let low := { up .faulted with sweeper := { ready.sweeper with published := {
      codes := #v[0, 0, 0, 0, 150, 0, 0, 0], valid := 0xFF } } }
    (feeder.startup = .ready ∧ feeder.isTruck = false) ∧
    (ready.isTruck = true ∧ ready.panto.state = .lowered ∧ ready.openChannel 2 = false ∧ ready.openChannel 3 = false ∧
      ready.openChannel 4 = false ∧ (opened 2 ready).openChannel 2 = true) ∧
    (f.panto.state = .faulted ∧ f.openChannel 4 = true) ∧
    (low.openChannel 4 = false ∧ low.code 4 ≤ low.config.loweredThreshold ∧ low.arc.pending = [] ∧
      { low with arc := { low.arc with pending := [newArc 1] } }.arc.pending ≠ []) ∧
    (high.openChannel 4 = false ∧ high.config.loweredThreshold < high.code 4) ∧
    (up .raising).panto.state = .raising ∧ (up .unloading).panto.state = .unloading := by decide

theorem witness_PantographTimersAndEmergencyLower :
    let s := upWith .raising fun p => { p with raiseTimer := some 1000001 }
    let c := upWith .unloading fun p => { p with unloadTimer := some 1000001 }
    let l := upWith .lowering fun p => { p with lowerTimer := some 1000001 }
    let i := upWith .contact fun p => { p with imbalanceTimer := some 1000001, imbalanceEpisode := true }
    (s.startup = .ready ∧ 1000001 ≤ max s.clock 1000001 ∧ s.panto.raiseTimer = some 1000001) ∧
    (c.panto.state = .unloading ∧ c.panto.unloadTimer = some 1000001) ∧
    (l.panto.state = .lowering ∧ l.panto.lowerTimer = some 1000001) ∧
    (i.panto.state = .contact ∧ i.panto.imbalanceTimer = some 1000001) ∧ s.isTruck = true ∧ ready.panto.state = .lowered := by
  decide

/-- The third loss 10,000 ms after the first, and 9,999 ms after it. -/
theorem witness_ContactLossesAreCounted :
    let s := { active 500 500 with panto := { (up .contact).panto with lossTimer := some 10000000, history := [0, 7480] } }
    (s.startup = .ready ∧ s.isTruck = true ∧ s.panto.lossTimer = some 10000000 ∧ 10000000 ≤ max s.clock 10000000 ∧
      s.panto.state = .contact ∧ s.panto.history.length ≤ 3) ∧
    10000 ≤ ((s.takenAt 10000000).now - 0).toNat ∧ ((s.takenAt 10000000).now - 1).toNat < 10000 ∧
    ((upWith .unloading fun p => { p with lossTimer := some 1 }).panto.state = .unloading ∧
      (up .unloading).openChannel 2 = false ∧ (up .unloading).openChannel 3 = false ∧
      (opened 2 (up .unloading)).openChannel 2 = true) := by decide

/-- The top stop at 4000 and one below, the release current at 40 and above, the lowered threshold at 150 and above. -/
theorem witness_SetsDriveThePantograph :
    let at4 (p : PantoState) (current position : Code) : State := { up p with sweeper := { ready.sweeper with published := {
      codes := #v[current, 0, 0, 0, position, 0, 0, 0], valid := 0xFF } } }
    ((at4 .raising 0 4000).validChannel 4 = true ∧ (at4 .raising 0 4000).config.topStop ≤ (at4 .raising 0 4000).code 4 ∧
      (at4 .raising 0 3999).code 4 < 4000) ∧
    ((at4 .unloading 40 0).validChannel 0 = true ∧ (at4 .unloading 40 0).code 0 ≤ (at4 .unloading 40 0).config.releaseCurrent ∧
      40 < (at4 .unloading 41 0).code 0) ∧
    ((at4 .lowering 0 150).code 4 ≤ (at4 .lowering 0 150).config.loweredThreshold ∧ 150 < (at4 .lowering 0 151).code 4 ∧
      (at4 .lowering 0 150).arc.pending = [] ∧
      { at4 .lowering 0 150 with arc := { ready.arc with pending := [newArc 1] } }.arc.pending ≠ []) := by decide

theorem witness_ActuatorTakesTheDriveOfTheState :
    let s := upWith .raising fun p => { p with actPwmOut := true, dutyInForce := 64 }
    (s.startup = .ready ∧ s.panto.nextBoundary ≤ max s.clock 1000050 ∧ s.isTruck = true ∧ feeder.isTruck = false) ∧
    (s.panto.actPwmOut = true ∧ s.panto.dutyInForce * 50 ≤ 256 * (max s.clock 1000013 + 50 - s.panto.nextBoundary) ∧
      256 * (max s.clock 1000012 + 50 - s.panto.nextBoundary) < s.panto.dutyInForce * 50) := by decide

/-- The sweep at its 360th µs, as the 64th and as the 63rd. -/
theorem witness_SweepPublishesAWholeSet :
    let s := { ready with sweeper := { ready.sweeper with conversion := .sweep 999640, sweepCounter := 63 } }
    (s.startup = .ready ∧ s.sweeper.conversion = .sweep 999640 ∧ 999640 + 360 ≤ max s.clock 0 ∧ s.sweeper.sweepCounter < 64) ∧
    (s.sweeper.keepSample 17 0).pairSamples.toList.getD 17 none = some 0 ∧ s.sweeper.pairSamples.toList.getD 0 none = none ∧
    ready.sweeper.sweepCounter < 63 ∧ ready.sweeper.testPending = false ∧ (opened 7 s).openChannel 7 = true ∧
    s.openChannel 7 = false ∧ s.isTruck = true ∧ feeder.isTruck = false := by decide

/-- The test at its 40th µs, at the bounds 4000 and 95; with the sensor fault and without. -/
theorem witness_OpenWireTestSetsItsChannelsFlag :
    let s (n : Fin 8) (p : PantoState) : State := { up p with sweeper := { ready.sweeper with
      conversion := .test 999960, rotation := n } }
    ((s 0 .contact).startup = .ready ∧ (s 0 .contact).sweeper.conversion = .test 999960 ∧ 999960 + 40 ≤ max (s 0 .contact).clock 0) ∧
    (4000 ≤ (⟨4000, 95⟩ : WireTest).pullUp.toNat ∧ (⟨4000, 95⟩ : WireTest).pullDown.toNat ≤ 95) ∧
    ((s 0 .contact).openChannel 0 = false ∧ (s 0 .contact).degradedStands = false ∧ (s 0 .contact).isTruck = true) ∧
    ((s 2 .contact).sensorFault = false ∧ (opened 4 (s 2 .contact)).sensorFault = true) ∧
    (s 4 .raising).panto.state = .raising ∧ feeder.isTruck = false := by decide

theorem witness_ArcStartOpensARecordAndRestartsTheSweep :
    let s := up .contact
    let tested := { s with
      arc := { ArcMonitor.powerOn with pending := [newArc 1, newArc 2] }
      sweeper := { s.sweeper with conversion := .test 999960, abortCount := 4 } }
    (s.startup = .ready ∧ s.panto.state ≠ .lowered ∧ s.panto.state ≠ .faulted ∧ s.arc.pending.length < 2 ∧
      s.sweeper.conversion = .sweep 999000 ∧ s.sweeper.abortCount < 4) ∧
    (s.arc.resetAt ≠ some (max s.clock 0) ∧
      ({ s with arc := { s.arc with resetAt := some 1000000 } } : State).arc.resetAt = some (max s.clock 0)) ∧
    (tested.arc.pending = [newArc 1, newArc 2] ∧ tested.sweeper.conversion = .test 999960 ∧ 4 ≤ tested.sweeper.abortCount) ∧
    ready.panto.state = .lowered ∧ (up .faulted).panto.state = .faulted := by decide

theorem witness_ArcRecordsAreCompletedAndLoggedInOrder :
    let s := { atClock 1655350 (up .contact) with
      arc := { ArcMonitor.powerOn with pending := [{ newArc 99990 with duration := some 15 }, newArc 100000] }
      sweeper := { ready.sweeper with conversion := .sweep 1654990, pairRequest := some 1655230 } }
    let held := { s with sweeper := { s.sweeper with heldSample := some ⟨900, 1655230, 1655330⟩ } }
    (s.startup = .ready ∧ s.arc.pending = [{ newArc 99990 with duration := some 15 }] ++ newArc 100000 :: [] ∧
      (∀ q ∈ [{ newArc 99990 with duration := some 15 }], q.duration ≠ none) ∧ (newArc 100000).duration = none ∧
      s.panto.state ≠ .lowered ∧ s.panto.state ≠ .faulted ∧ 65535 ≤ ((s.takenAt 0).arcNow - (newArc 100000).start).toNat) ∧
    (∀ q ∈ ready.arc.pending, q.duration ≠ none) ∧
    (s.sweeper.conversion = .sweep 1654990 ∧ s.sweeper.pairRequest = some 1655230 ∧ s.sweeper.heldSample = none ∧
      1655230 ≤ 1654990 + 20 * 12 ∧ 1654990 + 20 * (12 - 3) < 1655230 ∧ 1654990 + 20 * (12 + 1) ≤ max s.clock 0) ∧
    (held.sweeper.conversion = .sweep 1654990 ∧ 1654990 ≤ 1655230 ∧ (1655230 - 1654990) / 20 + 1 = 13) ∧
    (held.sweeper.heldSample = some ⟨900, 1655230, 1655330⟩ ∧ 1655330 + 20 ≤ max held.clock 0 ∧
      ∃ q ∈ held.arc.pending, q.pairReceived = false) ∧ ∀ q ∈ ready.arc.pending, q.pairReceived = true := by decide

/-- A count at the threshold 6, one below it, at its half and above, with the flag and without. -/
theorem witness_ArcStormHasTwoThresholds :
    let s (n : Nat) (storm : Bool) : State := { ready with
      arc := { ArcMonitor.powerOn with storm := storm, log := [{ newArc 100000 with count := n }] } }
    let count (s : State) := ((s.arc.log.filter fun r => !r.aged &&
      decide ((s.arcNow - r.start).toNat < 100 * s.config.arcWindow)).map (·.count)).sum
    (s 6 false).config.stormThreshold ≤ count (s 6 false) ∧ count (s 5 false) < (s 5 false).config.stormThreshold ∧
    ((s 3 true).arc.storm = true ∧ count (s 3 true) ≤ (s 3 true).config.stormThreshold / 2) ∧
    (s 4 true).config.stormThreshold / 2 < count (s 4 true) := by decide

theorem witness_FramesAreSentDeferredAndSelected :
    let q (n : Nat) : Queued := ⟨⟨0x0102, .depart⟩, n⟩
    let sending := { ready with link := { ready.link with transmitter := .sending ⟨0x0102, .depart⟩ 1000000 } }
    (waiting.startup = .ready ∧ waiting.link.transmitter = .waiting .periodic 1000000 ∧ 1000000 ≤ max waiting.clock 0 ∧
      waiting.link.slot .periodic = some (q 11) ∧ 12 ≤ 11 + 1 ∧ 10 + 1 < 12) ∧
    (sending.link.transmitter = .sending ⟨0x0102, .depart⟩ 1000000 ∧ 1000000 + 1823 ≤ max sending.clock 1001823 ∧
      max sending.clock 1001822 < 1000000 + 1823) ∧
    (ready.link.shed = none ∧ ready.link.depart = none ∧ ready.link.periodic = none ∧ waiting.link.periodic ≠ none) ∧
    (waiting.link.slot .periodic = some (q 11) ∧ ready.link.slot .shed = none ∧ ready.link.transmitter = .idle) := by decide

theorem witness_RandomGeneratorNeverReachesZero : (0x0102 : BitVec 16) ≠ 0 ∧ lfsrStep 0x0102 = lfsrStep 0x0102 := by decide

/-- Of 4000 A at 4 A a code: above 4250 A at 1063 codes, not at 1062; at or below 3500 A at 875, not at 876. -/
theorem witness_FeederCallsRepeatsAndReleasesItsShed :
    let s (o : Overload) (current : Code) : State := { State.reading feeder current 2300 with
      config := { feeder.config with capacity := 4000 }
      feeder := { FeederLogic.powerOn with overload := o, overTimer := some 1, releaseTimer := some 1, repeatTimer := some 1 } }
    ((s .over 0).startup = .ready ∧ 1 ≤ max (s .over 0).clock 0 ∧ (s .over 0).link.txEnable = true ∧
      (s .over 0).config.address ≠ 0 ∧ (s .over 0).feeder.overTimer = some 1) ∧
    { s .over 0 with link := { ready.link with txEnable := false } }.link.txEnable = false ∧
    ((s .normal 0).validChannel 0 = true ∧ (s .normal 0).validChannel 1 = true) ∧
    (4000 + 4000 / 16 < 4 * (s .normal 1063).code 0 ∧ 4 * (s .normal 1062).code 0 ≤ 4000 + 4000 / 16) ∧
    (4 * (s .shedding 875).code 0 ≤ 4000 - 4000 / 8 ∧ 4000 - 4000 / 8 < 4 * (s .shedding 876).code 0) ∧
    { s .shedding 0 with sweeper := { ready.sweeper with published := { ready.sweeper.published with valid := 0xFE } } }.validChannel 0 =
      false := by decide

/-- READ PEER with its index, and one byte short. -/
theorem witness_PortTransactionsRoundTrip :
    Instr.wellFormed (.readPeer 0 11) = true ∧ transactionBytes (.readPeer 0 11) = some [0x30, 11] ∧
    decodeTransaction 0 false [0x30, 11] = some (.readPeer 0 11) ∧ incomplete [0x30] = true := by decide

set_option maxRecDepth 100000 in
theorem witness_ConfigurationBlockRoundTrip :
    configForm truckConfig ∧ truckConfig.vKnee ≤ 4095 ∧
    ∃ v : Vector Byte 64, v.toList = configBytes truckConfig ++ halfBytes (crc16 (configBytes truckConfig)) :=
  ⟨form_of_truckConfig, by decide, ⟨(configBytes truckConfig ++ halfBytes (crc16 (configBytes truckConfig))).toArray, by decide⟩, rfl⟩

theorem witness_CommandsNotTakenChangeNothing :
    (State.answer ready .ok [7]).port.response[3 - 2]? = some 7 ∧ (State.answer ready .ok [7]).port.response.length ≤ 4 - 2 ∧
    decodeTransaction 0 false [0x01] = some (.readStatus 0) ∧ State.reset.startup = .loading ∧ paramCount 0x05 = none ∧
    ready.startup = .ready ∧ State.reset.startup ≠ .ready := by decide

set_option maxRecDepth 100000 in
/-- A held part, a loading one, and a self-check at its 680th µs; blocks of another version, with a wrong and with a good CRC, and
with and without a field altered. -/
theorem witness_StartUpPassesThroughItsStages :
    let bad : List Byte := 0x01 :: List.replicate 63 0
    let checking := { State.reset with startup := .selfCheck, config := truckConfig }
    { State.reset with startup := .held }.startup = .held ∧ State.reset.startup = .loading ∧ ready.startup ≠ .held ∧
    (checking.startup = .selfCheck ∧ max checking.clock 679 < 680 ∧ 680 ≤ max checking.clock 680 ∧ checking.isTruck = true) ∧
    (checking.feeder.overload = .normal ∧ { checking with config := feeder.config }.isTruck = false) ∧
    (crc16 (bad.take 62)).toNat ≠ 256 * (bad.getD 62 0).toNat + (bad.getD 63 0).toNat ∧ bad.getD 0 0 = 0x01 ∧
    (List.replicate 64 (0 : Byte)).getD 0 0 ≠ 0x01 ∧
    Altered [0x01, 0xFF, 0xFF] ∧ ¬ Altered (configBytes truckConfig) := by
  unfold Altered; decide

theorem witness_WarmResetKeepsAndClears :
    let s := { active 1700 1700 with port := { ready.port with warmResetRequested := true } }
    (s.startup = .ready ∧ s.port.warmResetRequested = true ∧ 0 < s.lim.periodValue ∧ s.config.strobeMode ≠ .off ∧
      s.panto.state = .contact) ∧
    (ready.port.warmResetRequested = false ∧ ¬ 0 < ready.lim.periodValue ∧ ready.panto.state = .lowered) ∧
    (up .raising).panto.state = .raising ∧ (up .unloading).panto.state = .unloading := by decide

end Sys2Proof.Tests
end

/-! ## The section budget and the share computation: effective demand, budget, scarce division, order of the sharers -/

namespace Sys2Proof.Machine

/-! ### The local cap and the effective demand (R6, R7) -/

/-- R6: the conditions under which the floor is a local cap. -/
theorem State.floorInForce_iff (s : State) :
    s.floorInForce = true ↔
      s.holds ≠ [] ∨ s.overflowStands = true ∨ s.openChannel 0 = true ∨ s.openChannel 1 = true ∨ s.arc.storm = true := by
  simp [State.floorInForce, or_assoc]

theorem State.localCap_of_floorInForce {s : State} (h : s.floorInForce = true) :
    s.localCap = min (min (min s.config.rating s.share.manualCap) s.droopCap) s.config.floor :=
  if_pos h

theorem State.localCap_of_not_floorInForce {s : State} (h : ¬ s.floorInForce = true) :
    s.localCap = min (min s.config.rating s.share.manualCap) s.droopCap :=
  if_neg h

theorem State.dSelf_le_requestedDemand (s : State) : s.dSelf ≤ s.share.requestedDemand := min_le_left _ _

theorem State.dSelf_le_localCap (s : State) : s.dSelf ≤ s.localCap := min_le_right _ _

theorem State.dSelf_le_floor {s : State} (h : s.floorInForce = true) : s.dSelf ≤ s.config.floor :=
  s.dSelf_le_localCap.trans (State.localCap_of_floorInForce h ▸ min_le_right _ _)

theorem Sharer.secured_of_demand_le_floor {i : Sharer} (h : i.demand ≤ i.floor) : i.secured = i.demand :=
  min_eq_right h

theorem Sharer.excess_of_demand_le_floor {i : Sharer} (h : i.demand ≤ i.floor) : i.excess = 0 := by
  rw [Sharer.excess, Sharer.secured_of_demand_le_floor h, Nat.sub_self]

/-- Settles O8, by the two cases of R6. -/
theorem effectiveDemandIsTheLesserOfDemandAndCap : Obligations.EffectiveDemandIsTheLesserOfDemandAndCap := by
  intro s hdemand
  refine ⟨rfl, s.dSelf_le_requestedDemand.trans hdemand, rfl, rfl, fun hfloor => ?_, fun hholds hover h0 h1 hstorm => ?_⟩
  · have hforce : s.floorInForce = true := s.floorInForce_iff.2 hfloor
    have hle : s.ownSharer.demand ≤ s.ownSharer.floor := State.dSelf_le_floor hforce
    exact ⟨State.localCap_of_floorInForce hforce, hle, Sharer.secured_of_demand_le_floor hle,
      Sharer.excess_of_demand_le_floor hle⟩
  · refine State.localCap_of_not_floorInForce ?_
    simp [State.floorInForce_iff, hholds, hover, h0, h1, hstorm]

/-! ### The supplying feeder (R8) -/

theorem Peer.freshFeeder_eq_some_iff {p : Peer} {now : Reading} {d : FeederPart} :
    p.freshFeeder now = some d ↔ p.part = .feeder d ∧ p.isFresh now = true := by
  unfold Peer.freshFeeder
  cases p.part with
  | truck e => simp
  | feeder e => by_cases hfresh : p.isFresh now = true <;> simp [hfresh]

theorem Peer.freshFeeder_eq_none {p : Peer} {now : Reading} (h : ∀ d, p.part = .feeder d → p.isFresh now = false) :
    p.freshFeeder now = none := by
  rw [Option.eq_none_iff_forall_ne_some]
  intro d hd
  obtain ⟨hpart, hfresh⟩ := Peer.freshFeeder_eq_some_iff.1 hd
  simp [h d hpart] at hfresh

/-- R8 and R26: in a table in address order, the FRESH feeder that the search meets first is the one of the lowest address. -/
theorem State.supplyingFeeder_of_lowest {s : State} {p : Peer} {d : FeederPart}
    (horder : s.peers.Pairwise fun p q => p.address.toNat < q.address.toNat) (hp : p ∈ s.peers) (hpart : p.part = .feeder d)
    (hfresh : p.isFresh s.now = true)
    (hlow : ∀ q e, q ∈ s.peers → q.part = .feeder e → q.isFresh s.now = true → p.address.toNat ≤ q.address.toNat) :
    s.supplyingFeeder = some d := by
  obtain ⟨earlier, later, hpeers⟩ := List.append_of_mem hp
  rw [hpeers, List.pairwise_append] at horder
  obtain ⟨-, -, hbelow⟩ := horder
  have hnone : earlier.findSome? (fun q => q.freshFeeder s.now) = none := by
    rw [List.findSome?_eq_none_iff]
    intro q hq
    refine Peer.freshFeeder_eq_none fun e he => ?_
    have hlt : q.address.toNat < p.address.toNat := hbelow q hq p List.mem_cons_self
    have hnot : ¬ q.isFresh s.now = true := fun hf => (hlow q e (by simp [hpeers, hq]) he hf).not_gt hlt
    simpa using hnot
  have hfound : p.freshFeeder s.now = some d := Peer.freshFeeder_eq_some_iff.2 ⟨hpart, hfresh⟩
  simp [State.supplyingFeeder, hpeers, List.findSome?_append, hnone, hfound]

theorem State.supplyingFeeder_eq_none {s : State}
    (h : ∀ q e, q ∈ s.peers → q.part = .feeder e → q.isFresh s.now = false) : s.supplyingFeeder = none :=
  List.findSome?_eq_none_iff.2 fun q hq => Peer.freshFeeder_eq_none fun e he => h q e hq he

theorem State.exists_peer_of_supplyingFeeder {s : State} {d : FeederPart} (h : s.supplyingFeeder = some d) :
    ∃ p ∈ s.peers, p.part = .feeder d := by
  obtain ⟨p, hp, hd⟩ := List.exists_of_findSome?_eq_some h
  exact ⟨p, hp, (Peer.freshFeeder_eq_some_iff.1 hd).1⟩

theorem State.budgetCapacity_of_some {s : State} {d : FeederPart} (h : s.supplyingFeeder = some d) :
    s.budgetCapacity = d.capacity := by
  simp [State.budgetCapacity, h]

theorem State.budgetCapacity_of_none {s : State} (h : s.supplyingFeeder = none) : s.budgetCapacity = s.config.capacity := by
  simp [State.budgetCapacity, h]

theorem State.budgetUnaccounted_of_some {s : State} {d : FeederPart} (h : s.supplyingFeeder = some d) :
    s.budgetUnaccounted = d.unaccounted := by
  simp [State.budgetUnaccounted, h]

theorem State.budgetUnaccounted_of_none {s : State} (h : s.supplyingFeeder = none) : s.budgetUnaccounted = 0 := by
  simp [State.budgetUnaccounted, h]

/-- Settles O9: the search's first FRESH feeder is the lowest, and without one the configuration stands in. -/
theorem lowestFreshFeederSuppliesTheBudget : Obligations.LowestFreshFeederSuppliesTheBudget := by
  intro s horder
  refine ⟨fun p d hp hpart hfresh hlow => ?_, fun hstale => ?_⟩
  · have hsome := State.supplyingFeeder_of_lowest horder hp hpart hfresh hlow
    exact ⟨State.budgetCapacity_of_some hsome, State.budgetUnaccounted_of_some hsome⟩
  · have hnone := State.supplyingFeeder_eq_none hstale
    exact ⟨State.budgetCapacity_of_none hnone, State.budgetUnaccounted_of_none hnone⟩

/-! ### The stale reserve and the budget (R9, R10) -/

/-- Summing a value over a list is summing it over the elements that have one, where an element without one counts 0. -/
theorem sum_map_getD_eq_sum_filterMap {α : Type} (f : α → Option Nat) (l : List α) :
    (l.map fun a => (f a).getD 0).sum = (l.filterMap f).sum := by
  induction l with
  | nil => rfl
  | cons a rest ih => cases h : f a <;> simp [h, ih]

/-- C and U come from a stored range of R25, or from the configuration. -/
theorem State.supply_le_of_tableForm {s : State} (hform : tableForm s.config.address s.peers)
    (hcap : s.config.capacity ≤ 16383) : s.budgetCapacity ≤ 16383 ∧ s.budgetUnaccounted ≤ 16383 := by
  cases h : s.supplyingFeeder with
  | none => simp [State.budgetCapacity_of_none h, State.budgetUnaccounted_of_none h, hcap]
  | some d =>
    obtain ⟨p, hp, hpart⟩ := State.exists_peer_of_supplyingFeeder h
    obtain ⟨-, -, hpeers⟩ := hform
    obtain ⟨-, -, -, -, hrange⟩ := hpeers p hp
    rw [hpart] at hrange
    obtain ⟨hcapacity, -, hunaccounted⟩ := hrange
    exact ⟨State.budgetCapacity_of_some h ▸ hcapacity, State.budgetUnaccounted_of_some h ▸ hunaccounted⟩

theorem Peer.reserved_le_of_inRange {p : Peer} (h : p.inRange) (now : Reading) : p.reserved now ≤ 4095 := by
  obtain ⟨-, -, hrange⟩ := h
  unfold Peer.reserved
  cases hpart : p.part with
  | feeder d => simp
  | truck d =>
    rw [hpart] at hrange
    obtain ⟨-, -, -, -, hallocation, -⟩ := hrange
    dsimp only
    split <;> omega

/-- R9 and R26: twelve entries of at most 4095 A. -/
theorem State.staleReserve_le_of_tableForm {s : State} (hform : tableForm s.config.address s.peers) :
    s.staleReserve ≤ 49140 := by
  obtain ⟨hlength, -, hpeers⟩ := hform
  have hsum : s.staleReserve ≤ (s.peers.map fun p => p.reserved s.now).length • 4095 := by
    refine List.sum_le_card_nsmul _ _ fun r hr => ?_
    obtain ⟨p, hp, rfl⟩ := List.mem_map.1 hr
    obtain ⟨-, -, hrange⟩ := hpeers p hp
    exact Peer.reserved_le_of_inRange hrange s.now
  simp only [List.length_map, smul_eq_mul] at hsum
  omega

/-- R10, over the integers. -/
theorem State.budget_eq_clamp (s : State) :
    (s.budget : Int) = max 0 (min 16383 ((s.budgetCapacity : Int) - s.budgetUnaccounted - s.staleReserve)) := by
  simp only [State.budget, maxSectionCurrent]
  omega

/-- Settles O10, from the clamp over the integers and the table's stored ranges. -/
theorem budgetIsCapacityLessReserves : Obligations.BudgetIsCapacityLessReserves := by
  intro s
  refine ⟨?_, s.budget_eq_clamp, fun hform hcap => ?_⟩
  · rw [← sum_map_getD_eq_sum_filterMap, State.staleReserve]
    congr 2
    funext p
    unfold Peer.reserved
    cases p.part with
    | feeder d => rfl
    | truck d => by_cases hfresh : p.isFresh s.now = true <;> simp [hfresh]
  · obtain ⟨hcapacity, hunaccounted⟩ := State.supply_le_of_tableForm hform hcap
    have hreserve := State.staleReserve_le_of_tableForm hform
    omega

/-! ### Floors that exceed the budget (R13) -/

/-- What rounding down costs a sum of quotients: at most the sum, and less than one for each part. -/
theorem sum_map_div_bounds (F : Nat) (hF : 0 < F) (l : List Nat) :
    F * (l.map (· / F)).sum ≤ l.sum ∧ l.sum + l.length ≤ F * ((l.map (· / F)).sum + l.length) := by
  induction l with
  | nil => simp
  | cons a rest ih =>
    obtain ⟨hle, hge⟩ := ih
    have hmod : a % F < F := Nat.mod_lt a hF
    have hdiv : F * (a / F) + a % F = a := Nat.div_add_mod a F
    simp only [List.map_cons, List.sum_cons, List.length_cons, mul_add, mul_one] at hge ⊢
    omega

theorem divideBudget_of_lt {budget : Nat} {l : List Sharer} (h : budget < securedSum l) :
    divideBudget budget l =
      { stage := 1, portions := floorsDivided budget l, unallocated := budget - allocated (floorsDivided budget l) } :=
  if_pos h

theorem allocated_floorsDivided (budget : Nat) (l : List Sharer) :
    allocated (floorsDivided budget l) = ((l.map fun i => i.secured * budget).map (· / securedSum l)).sum := by
  simp [allocated, floorsDivided, Function.comp_def]

/-- R13: a fraction of the budget below one leaves the floors' division within the budget, with less than 1 A a sharer left over. -/
theorem allocated_floorsDivided_bounds {budget : Nat} {l : List Sharer} (h : budget < securedSum l) :
    allocated (floorsDivided budget l) ≤ budget ∧ budget < allocated (floorsDivided budget l) + l.length := by
  have hF : 0 < securedSum l := by omega
  have hlength : 0 < l.length := List.length_pos_of_ne_nil (by rintro rfl; simp [securedSum] at hF)
  have hsum : (l.map fun i => i.secured * budget).sum = securedSum l * budget := List.sum_map_mul_right ..
  obtain ⟨hle, hge⟩ := sum_map_div_bounds _ hF (l.map fun i => i.secured * budget)
  rw [← allocated_floorsDivided, hsum] at hle hge
  rw [List.length_map] at hge
  exact ⟨Nat.le_of_mul_le_mul_left hle hF, Nat.lt_of_mul_lt_mul_left (a := securedSum l) (by omega)⟩

theorem amount_le_secured_of_mem_floorsDivided {budget : Nat} {l : List Sharer} (h : budget < securedSum l) {p : Portion}
    (hp : p ∈ floorsDivided budget l) : p.amount ≤ p.sharer.secured := by
  obtain ⟨i, -, rfl⟩ := List.mem_map.1 hp
  exact Nat.div_le_of_le_mul (mul_comm (securedSum l) _ ▸ Nat.mul_le_mul_left _ h.le)

/-- Settles O11, by what rounding down costs the sum of the floors' quotients. -/
theorem scarceBudgetIsDividedByFloors : Obligations.ScarceBudgetIsDividedByFloors := by
  intro budget l hscarce
  obtain ⟨hle, hlt⟩ := allocated_floorsDivided_bounds hscarce
  rw [divideBudget_of_lt hscarce]
  refine ⟨rfl, rfl, fun p hp => amount_le_secured_of_mem_floorsDivided hscarce hp, Nat.sub_add_cancel hle,
    by dsimp only; omega, fun hbudget i _ hfloor => ?_⟩
  calc i.secured * budget
    _ ≤ 1023 * 16383 := Nat.mul_le_mul ((min_le_left _ _).trans hfloor) hbudget
    _ = 16759809 := rfl

/-! ### The order of stage 5b (R15) -/

/-- What R15 sorts by: the ratio e_i / w_i, and the address where two ratios are equal. -/
def Sharer.rank (i : Sharer) : ℚ ×ₗ ℕ := toLex ((i.excess : ℚ) / i.weight, i.address.toNat)

/-- The test by cross-multiplication, its two cases exclusive. -/
theorem Sharer.before_iff (i j : Sharer) :
    i.before j = true ↔
      i.excess * j.weight < j.excess * i.weight ∨
      i.excess * j.weight = j.excess * i.weight ∧ i.address.toNat < j.address.toNat := by
  unfold Sharer.before
  split
  case isTrue heq => simp [heq]
  case isFalse hne => simp [hne]

/-- For weights of at least 1, cross-multiplication compares the ratios of R15. -/
theorem Sharer.before_iff_rank_lt {i j : Sharer} (hi : 1 ≤ i.weight) (hj : 1 ≤ j.weight) :
    i.before j = true ↔ i.rank < j.rank := by
  have hi' : (0 : ℚ) < i.weight := by exact_mod_cast hi
  have hj' : (0 : ℚ) < j.weight := by exact_mod_cast hj
  rw [Sharer.before_iff, Sharer.rank, Sharer.rank, Prod.Lex.toLex_lt_toLex, div_lt_div_iff₀ hi' hj',
    div_eq_div_iff hi'.ne' hj'.ne']
  norm_cast

theorem Sharer.rank_ne_of_address_ne {i j : Sharer} (h : i.address ≠ j.address) : i.rank ≠ j.rank := fun heq =>
  h (BitVec.eq_of_toNat_eq (congrArg (fun r => (ofLex r).2) heq))

theorem insertSharer_perm (i : Sharer) (l : List Sharer) : (insertSharer i l).Perm (i :: l) := by
  induction l with
  | nil => rfl
  | cons j rest ih =>
    rw [insertSharer]
    split
    · rfl
    · exact (ih.cons j).trans (.swap i j rest)

theorem orderSharers_perm (l : List Sharer) : (orderSharers l).Perm l := by
  induction l with
  | nil => rfl
  | cons i rest ih => exact (insertSharer_perm i _).trans (ih.cons i)

/-- Inserting a sharer of another address keeps a list in the order of R15. -/
theorem insertSharer_pairwise_rank {i : Sharer} {l : List Sharer} (hi : 1 ≤ i.weight) (hl : ∀ j ∈ l, 1 ≤ j.weight)
    (hne : ∀ j ∈ l, i.address ≠ j.address) (horder : l.Pairwise fun j k => j.rank < k.rank) :
    (insertSharer i l).Pairwise fun j k => j.rank < k.rank := by
  induction l with
  | nil => simp [insertSharer]
  | cons j rest ih =>
    obtain ⟨hj, hrest⟩ := List.forall_mem_cons.1 hl
    obtain ⟨hnej, hnerest⟩ := List.forall_mem_cons.1 hne
    obtain ⟨hjrest, hrestOrder⟩ := List.pairwise_cons.1 horder
    rw [insertSharer]
    split
    case isTrue hbefore =>
      have hij : i.rank < j.rank := (Sharer.before_iff_rank_lt hi hj).1 hbefore
      exact List.pairwise_cons.2 ⟨List.forall_mem_cons.2 ⟨hij, fun k hk => hij.trans (hjrest k hk)⟩, horder⟩
    case isFalse hbefore =>
      rw [Sharer.before_iff_rank_lt hi hj, not_lt] at hbefore
      have hji : j.rank < i.rank := hbefore.lt_of_ne (Sharer.rank_ne_of_address_ne hnej).symm
      refine List.pairwise_cons.2 ⟨fun k hk => ?_, ih hrest hnerest hrestOrder⟩
      exact List.forall_mem_cons (p := fun k => j.rank < k.rank).2 ⟨hji, hjrest⟩ k ((insertSharer_perm i rest).mem_iff.1 hk)

theorem orderSharers_pairwise_rank {l : List Sharer} (hweight : ∀ i ∈ l, 1 ≤ i.weight)
    (haddress : l.Pairwise fun i j => i.address ≠ j.address) :
    (orderSharers l).Pairwise fun i j => i.rank < j.rank := by
  induction l with
  | nil => exact .nil
  | cons i rest ih =>
    obtain ⟨hi, hrest⟩ := List.forall_mem_cons.1 hweight
    obtain ⟨hne, hrestAddress⟩ := List.pairwise_cons.1 haddress
    have hmem : ∀ j, j ∈ orderSharers rest → j ∈ rest := fun _ => (orderSharers_perm rest).mem_iff.1
    exact insertSharer_pairwise_rank hi (fun j hj => hrest j (hmem j hj)) (fun j hj => hne j (hmem j hj)) (ih hrest hrestAddress)

/-- Settles O12: insertion by cross-multiplication sorts by the ratio and then the address. -/
theorem sharersStandInOrderOfRatio : Obligations.SharersStandInOrderOfRatio := by
  intro l hweight haddress
  have hmem : ∀ i, i ∈ orderSharers l → 1 ≤ i.weight := fun i hi => hweight i ((orderSharers_perm l).mem_iff.1 hi)
  refine ⟨orderSharers_perm l, ?_, fun hrange i hi j hj => ?_⟩
  · refine (orderSharers_pairwise_rank hweight haddress).imp_of_mem fun {i j} hi hj hlt => ?_
    exact (i.before_iff j).1 ((Sharer.before_iff_rank_lt (hmem i hi) (hmem j hj)).2 hlt)
  · obtain ⟨hdemand, -⟩ := hrange i hi
    obtain ⟨-, hweightj⟩ := hrange j hj
    calc i.excess * j.weight
      _ ≤ 4095 * 15 := Nat.mul_le_mul ((Nat.sub_le _ _).trans hdemand) hweightj
      _ = 61425 := rfl

end Sys2Proof.Machine

/-! ## The peer table: the sender's entry updated or inserted, removal by DEPART, ageing -/

namespace Sys2Proof.Machine

/-! ### Freshness (R35, R36) -/

theorem Peer.isFresh_of_age_lt {p : Peer} {now : Reading} (h : p.age now < 300 * p.period) : p.isFresh now = true := by
  simp [Peer.isFresh, Peer.staleAge, h]

theorem Peer.isFresh_of_lt_age {p : Peer} {now : Reading} (h : 300 * p.period < p.age now) : p.isFresh now = false := by
  simp [Peer.isFresh, Peer.staleAge, h.ne', h.le.not_gt]

/-- In the millisecond of the transition the entry's one bit decides. -/
theorem Peer.isFresh_of_age_eq {p : Peer} {now : Reading} (h : p.age now = 300 * p.period) :
    p.isFresh now = !p.becameStale := by
  simp [Peer.isFresh, Peer.staleAge, h]

/-- From the age of R35 on, an entry whose transition is taken is STALE. -/
theorem Peer.isFresh_of_becameStale {p : Peer} {now : Reading} (hstale : p.becameStale = true)
    (hage : 300 * p.period ≤ p.age now) : p.isFresh now = false := by
  simp [Peer.isFresh, Peer.staleAge, hstale, hage.not_gt]

theorem Peer.age_of_lastHeard_eq {p : Peer} {now : Reading} (h : p.lastHeard = now) : p.age now = 0 := by
  simp [Peer.age, h]

/-- R25 and R30: an entry heard now is FRESH, its period being at least 5. -/
theorem Peer.isFresh_of_heard_now {p : Peer} {now : Reading} (hrange : p.inRange) (h : p.lastHeard = now) :
    p.isFresh now = true := by
  obtain ⟨hperiod, -⟩ := hrange
  exact Peer.isFresh_of_age_lt (by rw [Peer.age_of_lastHeard_eq h]; omega)

/-! ### The transition, the removal by age and the overflow timer (R33, R36, R37) -/

theorem exec_entryBecomesStale (t : Nat) (a : Address) (s : State) (hready : s.startup = .ready) :
    exec (.entryBecomesStale t a) s = .next { s with
      clock := max s.clock t
      peers := s.peers.map fun p =>
        if p.address = a ∧ 300 * p.period ≤ p.age (s.takenAt t).now then { p with becameStale := true } else p } := by
  change execEntryBecomesStale t a s = _
  simp [execEntryBecomesStale, Peer.ages, Peer.staleAge, State.takenAt_of_ready t s hready]

theorem exec_entryRemovedByAge (t : Nat) (a : Address) (s : State) (hready : s.startup = .ready) :
    exec (.entryRemovedByAge t a) s = .next { s with
      clock := max s.clock t
      peers := s.peers.filter fun p => !(p.address == a && p.expired (s.takenAt t).now) } := by
  change execEntryRemovedByAge t a s = _
  simp [execEntryRemovedByAge, State.takenAt_of_ready t s hready]

theorem exec_overflowTimerExpiry (t d : Nat) (s : State) (hready : s.startup = .ready)
    (hrun : s.share.overflowTimer = some d) :
    exec (.overflowTimerExpiry t) s = .next
      (if d ≤ max s.clock t then { s with clock := max s.clock t, share := { s.share with overflowTimer := none } }
        else { s with clock := max s.clock t }) := by
  change execOverflowTimerExpiry t s = _
  simp [execOverflowTimerExpiry, hrun, State.due_some, State.takenAt_of_ready t s hready]

/-- Settles O28: the three ageing commands, each by its equation. -/
theorem entriesAgeAndTheOverflowEnds : Obligations.EntriesAgeAndTheOverflowEnds := by
  refine ⟨fun p now => ⟨Peer.isFresh_of_age_lt, Peer.isFresh_of_lt_age, Peer.isFresh_of_age_eq⟩,
    fun t a s hready => ⟨exec_entryBecomesStale t a s hready, ?_⟩, fun t a s hready => ?_, fun t d s hready hrun => ?_⟩
  · rintro u hu p hp haddress hage
    rw [exec_entryBecomesStale t a s hready] at hu
    cases hu
    obtain ⟨q, -, rfl⟩ := List.mem_map.1 hp
    by_cases hdue : q.address = a ∧ 300 * q.period ≤ q.age (s.takenAt t).now
    · simp only [if_pos hdue] at hage ⊢
      exact Peer.isFresh_of_becameStale rfl hage
    · simp only [if_neg hdue] at haddress hage
      exact absurd ⟨haddress, hage⟩ hdue
  · refine ⟨_, exec_entryRemovedByAge t a s hready, fun q => ?_, List.filter_sublist, rfl⟩
    simp [Peer.expired, State.takenAt_of_ready t s hready, State.now, ← imp_iff_not_or]
  · rw [exec_overflowTimerExpiry t d s hready hrun]
    exact ⟨fun hdue => by rw [if_pos hdue], fun hlater => by rw [if_neg (by omega)]⟩

/-! ### An accepted frame (R105 to R109) -/

/-- The state in which a whole frame begun at these moments is handed on: taken at `t`, the line heard to the frame's end. -/
def State.frameHeard (t : Nat) (starts : List Nat) (s : State) : State :=
  { s with clock := max s.clock t, link := s.link.heard starts }

/-- A whole valid frame from another station is handed on at its moment. -/
theorem State.hear_accepted {s : State} {t : Nat} {f : Frame} {starts : List Nat} (hready : s.startup = .ready)
    (hlength : starts.length = 7 + (payloadBytes f.payload).length) (hheard : s.hearsWhole t starts = true)
    (hvalid : validAddress f.source) (hother : f.source ≠ s.config.address) :
    (s.takenAt t).hear (f.characters f.crc starts) = (s.frameHeard t starts).handOn f := by
  rw [State.hear_whole f f.crc t starts s hready (by rw [hlength, f.length_received]) hheard, State.takenAt_of_ready t s hready]
  exact State.takeFrame_accepted _ f hvalid hother

theorem exec_departReceived_accepted {s : State} {t : Nat} {a : Address} {starts : Vector Nat 7} (hready : s.startup = .ready)
    (hheard : s.hearsWhole t starts.toList = true) (hvalid : validAddress a) (hother : a ≠ s.config.address) :
    exec (.departReceived t a ⟨Frame.crc ⟨a, .depart⟩, starts⟩) s = .next { s with
      clock := max s.clock t, peers := removePeer a s.peers, link := s.link.heard starts.toList } :=
  congrArg Host.Outcome.next
    (State.hear_accepted (f := ⟨a, .depart⟩) hready (by simp [payloadBytes]) hheard hvalid hother)

/-- Settles O27: the accepted DEPART filters the sender's address out. -/
theorem departRemovesItsSender : Obligations.DepartRemovesItsSender := by
  intro t a starts s hready hheard hvalid hother
  exact ⟨_, exec_departReceived_accepted hready hheard hvalid hother, mem_removePeer a s.peers, List.filter_sublist, rfl⟩

theorem exec_demandReceived_accepted {s : State} {t : Nat} {a : Address} {d : DemandPayload} {starts : Vector Nat 20}
    (hready : s.startup = .ready) (hheard : s.hearsWhole t starts.toList = true) (hvalid : validAddress a)
    (hother : a ≠ s.config.address) :
    exec (.demandReceived t a d ⟨Frame.crc ⟨a, .demand d⟩, starts⟩) s = .next
      ((s.frameHeard t starts.toList).takePeer
        ⟨a, takenPeriod d.period, (s.takenAt t).now, .truck (takenDemand d), false⟩) := by
  rw [State.takenAt_of_ready t s hready]
  exact congrArg Host.Outcome.next (State.hear_accepted (f := ⟨a, .demand d⟩) hready
    (by simp [payloadBytes, demandBytes, halfBytes]) hheard hvalid hother)

theorem exec_supplyReceived_accepted {s : State} {t : Nat} {a : Address} {d : SupplyPayload} {starts : Vector Nat 17}
    (hready : s.startup = .ready) (hheard : s.hearsWhole t starts.toList = true) (hvalid : validAddress a)
    (hother : a ≠ s.config.address) :
    exec (.supplyReceived t a d ⟨Frame.crc ⟨a, .supply d⟩, starts⟩) s = .next
      ((s.frameHeard t starts.toList).takePeer
        ⟨a, takenPeriod d.period, (s.takenAt t).now, .feeder (takenSupply d), false⟩) := by
  rw [State.takenAt_of_ready t s hready]
  exact congrArg Host.Outcome.next (State.hear_accepted (f := ⟨a, .supply d⟩) hready
    (by simp [payloadBytes, supplyBytes, halfBytes]) hheard hvalid hother)

/-! ### The entry a frame gives (R25, R108) -/

theorem clampTo_bounds {lo hi : Nat} (v : Nat) (h : lo ≤ hi) : lo ≤ clampTo lo hi v ∧ clampTo lo hi v ≤ hi :=
  ⟨le_max_left _ _, max_le h (min_le_left _ _)⟩

theorem takenMode_bounds (b : Byte) : 1 ≤ takenMode b ∧ takenMode b ≤ 3 := by
  unfold takenMode
  split <;> omega

/-- The clamps of R108 give the stored ranges of R25. -/
theorem Peer.inRange_of_takenDemand (a : Address) (d : DemandPayload) (now : Reading) :
    Peer.inRange ⟨a, takenPeriod d.period, now, .truck (takenDemand d), false⟩ := by
  obtain ⟨hlow, hhigh⟩ : 5 ≤ takenPeriod d.period ∧ takenPeriod d.period ≤ 50 := clampTo_bounds _ (by decide)
  exact ⟨hlow, hhigh, takenMode_bounds _, clampTo_bounds _ (by decide), min_le_left _ _, min_le_left _ _, min_le_left _ _,
    min_le_left _ _⟩

theorem Peer.inRange_of_takenSupply (a : Address) (d : SupplyPayload) (now : Reading) :
    Peer.inRange ⟨a, takenPeriod d.period, now, .feeder (takenSupply d), false⟩ := by
  obtain ⟨hlow, hhigh⟩ : 5 ≤ takenPeriod d.period ∧ takenPeriod d.period ≤ 50 := clampTo_bounds _ (by decide)
  exact ⟨hlow, hhigh, min_le_left _ _, min_le_left _ _, min_le_left _ _⟩

/-! ### The table with an entry updated or inserted (R26, R28 to R30) -/

theorem State.takePeer_of_known {s : State} {p : Peer} (h : ∃ q ∈ s.peers, q.address = p.address) :
    s.takePeer p = { s with peers := updatePeer p s.peers } :=
  if_pos ((hasPeer_iff s.peers p.address).2 h)

theorem State.takePeer_of_room {s : State} {p : Peer} (hnew : ∀ q ∈ s.peers, q.address ≠ p.address)
    (hroom : s.peers.length < 12) : s.takePeer p = { s with peers := insertPeer p s.peers } := by
  have hunknown : ¬ hasPeer s.peers p.address = true := by
    rw [hasPeer_iff]
    rintro ⟨q, hq, haddress⟩
    exact hnew q hq haddress
  rw [State.takePeer, if_neg hunknown]
  exact if_pos hroom

theorem mem_updatePeer (p q : Peer) (l : List Peer) :
    q ∈ updatePeer p l ↔ (q = p ∧ ∃ r ∈ l, r.address = p.address) ∨ (q ∈ l ∧ q.address ≠ p.address) := by
  rw [updatePeer, List.mem_map]
  constructor
  · rintro ⟨r, hr, rfl⟩
    by_cases haddress : r.address = p.address
    · exact .inl ⟨by simp [haddress], r, hr, haddress⟩
    · exact .inr (by simp [haddress, hr])
  · rintro (⟨rfl, r, hr, haddress⟩ | ⟨hq, hne⟩)
    · exact ⟨r, hr, by simp [haddress]⟩
    · exact ⟨q, hq, by simp [hne]⟩

/-- Replacing an entry in its place keeps the form of R26. -/
theorem tableForm_updatePeer {own : Address} {p : Peer} {l : List Peer} (hform : tableForm own l)
    (hp : validAddress p.address ∧ p.address ≠ own ∧ p.inRange) : tableForm own (updatePeer p l) := by
  obtain ⟨hlength, horder, hentries⟩ := hform
  refine ⟨by rwa [length_updatePeer], ?_, fun q hq => ?_⟩
  · rwa [← List.pairwise_map (f := Peer.address) (R := fun a b : Address => a.toNat < b.toNat), updatePeer_addresses,
      List.pairwise_map]
  · rcases (mem_updatePeer p q l).1 hq with ⟨rfl, -⟩ | ⟨hmem, -⟩
    · exact hp
    · exact hentries q hmem

/-- Inserting a new address where there is room keeps the form of R26. -/
theorem tableForm_insertPeer {own : Address} {p : Peer} {l : List Peer} (hform : tableForm own l)
    (hp : validAddress p.address ∧ p.address ≠ own ∧ p.inRange) (hnew : ∀ q ∈ l, q.address ≠ p.address)
    (hroom : l.length < 12) : tableForm own (insertPeer p l) := by
  obtain ⟨-, horder, hentries⟩ := hform
  refine ⟨by rw [length_insertPeer]; exact hroom, pairwise_insertPeer p l horder hnew, fun q hq => ?_⟩
  rcases (mem_insertPeer p q l).1 hq with rfl | hmem
  · exact hp
  · exact hentries q hmem

/-- R28 to R30: a known sender's entry is replaced in its place, a new one is inserted where there is room, and every other field
stays. -/
theorem State.takePeer_of_known_or_room {s : State} {p : Peer} (hform : tableForm s.config.address s.peers)
    (hentry : validAddress p.address ∧ p.address ≠ s.config.address ∧ p.inRange)
    (hplace : (∃ q ∈ s.peers, q.address = p.address) ∨ s.peers.length < 12) :
    tableForm s.config.address (s.takePeer p).peers ∧ p ∈ (s.takePeer p).peers ∧
      (∀ q, q.address ≠ p.address → (q ∈ (s.takePeer p).peers ↔ q ∈ s.peers)) ∧
      ((∃ q ∈ s.peers, q.address = p.address) → (s.takePeer p).peers.map (·.address) = s.peers.map (·.address)) ∧
      ((∀ q ∈ s.peers, q.address ≠ p.address) → (s.takePeer p).peers.length = s.peers.length + 1) ∧
      s.takePeer p = { s with peers := (s.takePeer p).peers } := by
  have hdistinct : ∀ q : Peer, q.address ≠ p.address → q ≠ p := fun q hq heq => hq (heq ▸ rfl)
  by_cases hknown : ∃ q ∈ s.peers, q.address = p.address
  · rw [State.takePeer_of_known hknown]
    refine ⟨tableForm_updatePeer hform hentry, (mem_updatePeer p p s.peers).2 (.inl ⟨rfl, hknown⟩), fun q hq => ?_,
      fun _ => updatePeer_addresses p s.peers, fun hnew => ?_, rfl⟩
    · simp [mem_updatePeer, hdistinct q hq, hq]
    · obtain ⟨q, hq, haddress⟩ := hknown
      exact absurd haddress (hnew q hq)
  · have hroom : s.peers.length < 12 := hplace.resolve_left hknown
    have hnew : ∀ q ∈ s.peers, q.address ≠ p.address := fun q hq haddress => hknown ⟨q, hq, haddress⟩
    rw [State.takePeer_of_room hnew hroom]
    refine ⟨tableForm_insertPeer hform hentry hnew hroom, (mem_insertPeer p p s.peers).2 (.inl rfl), fun q hq => ?_,
      fun hold => absurd hold hknown, fun _ => length_insertPeer p s.peers, rfl⟩
    simp [mem_insertPeer, hdistinct q hq]

/-- Settles O24: the frame gives an entry in range, and the table takes it. -/
theorem acceptedFrameUpdatesOrInsertsItsSender : Obligations.AcceptedFrameUpdatesOrInsertsItsSender := by
  intro t a s i p f starts hready hheard hvalid hother hform hframe hplace
  obtain ⟨hexec, rfl, hrange, hnow⟩ :
      exec i s = .next ((s.frameHeard t starts).takePeer p) ∧ p.address = a ∧ p.inRange ∧
        p.lastHeard = (s.takenAt t).now := by
    rcases hframe with ⟨d, v, rfl, rfl, rfl, rfl⟩ | ⟨d, v, rfl, rfl, rfl, rfl⟩
    · exact ⟨exec_demandReceived_accepted hready hheard hvalid hother, rfl, Peer.inRange_of_takenDemand _ d _, rfl⟩
    · exact ⟨exec_supplyReceived_accepted hready hheard hvalid hother, rfl, Peer.inRange_of_takenSupply _ d _, rfl⟩
  have hfresh : p.isFresh (s.frameHeard t starts).now = true := by
    rw [State.takenAt_of_ready t s hready] at hnow
    exact Peer.isFresh_of_heard_now hrange hnow
  obtain ⟨htable, hmem, hothers, hplaces, hnumber, htaken⟩ :=
    State.takePeer_of_known_or_room (s := s.frameHeard t starts) hform ⟨hvalid, hother, hrange⟩ hplace
  exact ⟨_, hexec, htable, hmem, by rw [htaken]; exact hfresh, hothers, hplaces, hnumber, htaken⟩

end Sys2Proof.Machine

/-! ## The limit output: the ramp, the cut period, the manual cap -/

namespace Sys2Proof.Machine

/-! ### The cut of the present period (R71, R73) -/

theorem State.cutPeriod_of_le {s : State} (h : s.lim.periodValue ≤ s.lim.limit) : s.cutPeriod = s :=
  if_neg (Nat.not_lt.2 h)

/-- The Limit Generator with its present period cut to the limit (R71). -/
def State.cutLimit (s : State) : LimitGenerator :=
  { s.lim with periodValue := s.lim.limit, limitOut := s.lim.limitOut && decide (s.clock % 4096 < s.lim.limit) }

theorem State.cutPeriod_lim_of_off {s : State} (h : s.lim.limit < s.lim.periodValue) (hoff : s.config.strobeMode = .off) :
    s.cutPeriod.lim = s.cutLimit := by
  simp [State.cutPeriod, h, hoff, State.cutLimit, State.pwmCounter, limitPeriod]
  rfl

/-- In modes 1 and 2 the cut is strobed at once (R73). -/
theorem State.cutPeriod_lim_of_on {s : State} (h : s.lim.limit < s.lim.periodValue) (hon : s.config.strobeMode ≠ .off) :
    s.cutPeriod.lim = { s.cutLimit with
      markedValue := s.lim.limit, applicationMark := false, lstbOut := true, lstbUntil := s.clock + 100 } := by
  simp [State.cutPeriod, h, hon, State.cutLimit, State.strobe, State.pwmCounter, limitPeriod, strobeWidth]
  rfl

/-! ### A target application (R64) -/

theorem rampedLimit_of_lt {step limit target : Nat} (h : limit < target) :
    rampedLimit step limit target = min (limit + step) target :=
  if_pos h

theorem rampedLimit_of_le {step limit target : Nat} (h : target ≤ limit) : rampedLimit step limit target = target :=
  if_neg (Nat.not_lt.2 h)

theorem rampedLimit_le_target (step limit target : Nat) : rampedLimit step limit target ≤ target := by
  unfold rampedLimit
  split <;> omega

theorem rampedLimit_le_add (step limit target : Nat) : rampedLimit step limit target ≤ limit + step := by
  unfold rampedLimit
  split <;> omega

/-- The state in which a target's application cuts the period: the limit ramped, the target noted, the application marked. -/
def State.ramped (s : State) (target : Nat) : State :=
  { s with lim := { s.lim with
    limit := rampedLimit s.config.rampStep s.lim.limit target
    lastTarget := target
    applicationMark := s.lim.applicationMark || s.config.strobeMode == .everyApplication } }

theorem State.applyTarget_eq (s : State) (target : Nat) : s.applyTarget target = (s.ramped target).cutPeriod := rfl

/-- Settles O19, by whether the ramped limit stays above the period value or cuts it. -/
theorem targetIsRampedUpAndFallsWhole : Obligations.TargetIsRampedUpAndFallsWhole := by
  intro s target
  refine ⟨fun hrise => ?_, fun hfall => ?_, State.applyTarget_lastTarget s target, fun htarget hlimit => ?_,
    fun hfall hbelow => ?_, State.applyTarget_frame s target⟩
  · rw [State.applyTarget_limit, rampedLimit_of_lt hrise]
  · rw [State.applyTarget_limit, rampedLimit_of_le hfall]
  · have huncut : s.lim.periodValue ≤ rampedLimit s.config.rampStep s.lim.limit target := by
      unfold rampedLimit
      split <;> omega
    rw [State.applyTarget_eq, State.cutPeriod_of_le (s := s.ramped target) huncut]
    simp [State.ramped]
  · have hramped : rampedLimit s.config.rampStep s.lim.limit target = target := rampedLimit_of_le hfall
    have hcut : (s.ramped target).lim.limit < (s.ramped target).lim.periodValue := by simpa [State.ramped, hramped] using hbelow
    rw [State.applyTarget_eq]
    by_cases hoff : s.config.strobeMode = .off
    · rw [State.cutPeriod_lim_of_off hcut hoff]
      simp [State.cutLimit, State.ramped, hramped, hoff]
    · rw [State.cutPeriod_lim_of_on hcut hoff]
      simp [State.cutLimit, State.ramped, hramped, hoff]

/-! ### The manual cap (R67) -/

theorem State.localCap_le_rating (s : State) : s.localCap ≤ s.config.rating := by
  by_cases h : s.floorInForce = true
  · rw [State.localCap_of_floorInForce h]
    omega
  · rw [State.localCap_of_not_floorInForce h]
    omega

theorem State.localCap_le_manualCap (s : State) : s.localCap ≤ s.share.manualCap := by
  by_cases h : s.floorInForce = true
  · rw [State.localCap_of_floorInForce h]
    omega
  · rw [State.localCap_of_not_floorInForce h]
    omega

/-- WRITE CAP on a ready part: the clamped cap stored, answered OK and laid on the limit. -/
theorem exec_writeCap (t : Nat) (cap : Half) (s : State) (hready : s.startup = .ready) :
    exec (.writeCap t cap) s = .next (State.immediateCap { (s.takenAt t).answerOk with
      share := { s.share with manualCap := min 4095 cap.toNat } } (min 4095 cap.toNat)) := by
  change execWriteCap t cap s = _
  rw [execWriteCap, onPort_of_ready t s _ hready]
  rfl

/-- Settles O21, from what an immediate cap writes. -/
theorem writeCapStoresAndCapsAtOnce : Obligations.WriteCapStoresAndCapsAtOnce := by
  intro t cap s hready
  refine ⟨_, exec_writeCap t cap s hready, by simp, State.immediateCap_lim_congr _ _ _ rfl rfl rfl, by simp, ?_, by simp, ?_⟩
  · rintro rfl
    refine ⟨by simp, Nat.le_zero.1 (((State.dSelf_le_localCap _).trans (State.localCap_le_manualCap _)).trans ?_)⟩
    simp
  · apply State.eq_of_fields <;> simp [State.takenAt_clock_of_ready t s hready]

end Sys2Proof.Machine

/-! ## The division keeps every sharer within its demand -/

namespace Sys2Proof.Machine

/-! ### Each allocation and its demand (R13, R16, R17) -/

theorem Sharer.secured_le_demand (i : Sharer) : i.secured ≤ i.demand := min_le_right _ _

theorem Sharer.secured_add_excess (i : Sharer) : i.secured + i.excess = i.demand :=
  Nat.add_sub_cancel' i.secured_le_demand

/-- In the order of R15 the ratios rise. -/
theorem Sharer.excess_mul_weight_le_of_rank_le {i j : Sharer} (hi : 1 ≤ i.weight) (hj : 1 ≤ j.weight) (h : i.rank ≤ j.rank) :
    i.excess * j.weight ≤ j.excess * i.weight := by
  by_contra hlt
  exact h.not_gt ((Sharer.before_iff_rank_lt hj hi).1 ((j.before_iff i).2 (.inl (by omega))))

/-- R17: where the residual does not reach the excess of sharer `i`, no later sharer is given more than its own excess. -/
theorem splitPart_le_excess {e w : Nat} {i j : Sharer} (hi : 1 ≤ i.weight) (hj : 1 ≤ j.weight) (hrank : i.rank ≤ j.rank)
    (hstop : e * i.weight ≤ i.excess * w) : splitPart e w j ≤ j.excess := by
  refine Nat.div_le_of_le_mul (Nat.le_of_mul_le_mul_right ?_ hi)
  calc e * j.weight * i.weight
    _ = e * i.weight * j.weight := Nat.mul_right_comm ..
    _ ≤ i.excess * w * j.weight := Nat.mul_le_mul_right _ hstop
    _ = i.excess * j.weight * w := Nat.mul_right_comm ..
    _ ≤ j.excess * i.weight * w := Nat.mul_le_mul_right _ (Sharer.excess_mul_weight_le_of_rank_le hi hj hrank)
    _ = w * j.excess * i.weight := by ring

/-- R16 and R17: over sharers in the order of R15, whoever is allocated is a sharer and has at most its demand. -/
theorem amount_le_demand_of_mem_waterFill {l : List Sharer} (hweight : ∀ i ∈ l, 1 ≤ i.weight)
    (horder : l.Pairwise fun i j => i.rank < j.rank) (e w : Nat) :
    ∀ p ∈ (waterFill l e w).1, p.sharer ∈ l ∧ p.amount ≤ p.sharer.demand := by
  induction l generalizing e w with
  | nil => nofun
  | cons i rest ih =>
    obtain ⟨hi, hrest⟩ := List.forall_mem_cons.1 hweight
    obtain ⟨hbelow, hrestOrder⟩ := List.pairwise_cons.1 horder
    intro p hp
    rw [waterFill] at hp
    split at hp
    case isTrue hfill =>
      rcases List.mem_cons.1 hp with rfl | hp
      · exact ⟨List.mem_cons_self, i.secured_add_excess.le⟩
      · obtain ⟨hmem, hle⟩ := ih hrest hrestOrder _ _ p hp
        exact ⟨List.mem_cons_of_mem _ hmem, hle⟩
    case isFalse hstop =>
      obtain ⟨j, hj, rfl⟩ := List.mem_map.1 hp
      have hrank : i.rank ≤ j.rank := by
        rcases List.mem_cons.1 hj with rfl | hj
        · exact le_rfl
        · exact (hbelow j hj).le
      have hpart : splitPart e w j ≤ j.excess := splitPart_le_excess hi (hweight j hj) hrank (Nat.le_of_not_le hstop)
      have hsum := j.secured_add_excess
      exact ⟨hj, by dsimp only; omega⟩

/-- R13 to R18: whoever is allocated is a sharer and has at most its demand. -/
theorem amount_le_demand_of_mem_divideBudget {l : List Sharer} (hweight : ∀ i ∈ l, 1 ≤ i.weight)
    (haddress : l.Pairwise fun i j => i.address ≠ j.address) (budget : Nat) :
    ∀ p ∈ (divideBudget budget l).portions, p.sharer ∈ l ∧ p.amount ≤ p.sharer.demand := by
  intro p hp
  by_cases hscarce : budget < securedSum l
  · rw [divideBudget_of_lt hscarce] at hp
    have hle : p.amount ≤ p.sharer.secured := amount_le_secured_of_mem_floorsDivided hscarce hp
    obtain ⟨i, hi, rfl⟩ := List.mem_map.1 hp
    exact ⟨hi, hle.trans i.secured_le_demand⟩
  · rw [divideBudget, if_neg hscarce] at hp
    have hperm := orderSharers_perm l
    obtain ⟨hmem, hle⟩ := amount_le_demand_of_mem_waterFill (fun i hi => hweight i (hperm.mem_iff.1 hi))
      (orderSharers_pairwise_rank hweight haddress) _ _ p hp
    exact ⟨hperm.mem_iff.1 hmem, hle⟩

/-! ### The sharers of a tick and the target (R11, R19) -/

theorem Peer.exists_truckPart_of_sharer {p : Peer} {now : Reading} {i : Sharer} (h : p.sharer now = some i) :
    ∃ d, p.part = .truck d ∧ i = ⟨false, p.address, d.effectiveDemand, d.floor, d.weight⟩ := by
  unfold Peer.sharer at h
  cases hpart : p.part with
  | feeder d => simp [hpart] at h
  | truck d =>
    by_cases hfresh : p.isFresh now = true
    · simp only [hpart, hfresh, if_true, Option.some.injEq] at h
      exact ⟨d, rfl, h.symm⟩
    · simp [hpart, hfresh] at h

theorem Peer.weight_pos_of_sharer {p : Peer} {now : Reading} {i : Sharer} (hrange : p.inRange) (h : p.sharer now = some i) :
    1 ≤ i.weight := by
  obtain ⟨d, hpart, rfl⟩ := Peer.exists_truckPart_of_sharer h
  obtain ⟨-, -, hrange⟩ := hrange
  rw [hpart] at hrange
  obtain ⟨-, ⟨hweight, -⟩, -⟩ := hrange
  exact hweight

theorem State.ownWeight_pos {s : State} (hconfig : configForm s.config) : 1 ≤ s.ownWeight := by
  obtain ⟨-, ⟨⟨h0, -⟩, ⟨h1, -⟩, ⟨h2, -⟩, ⟨h3, -⟩⟩, -⟩ := hconfig
  unfold State.ownWeight
  split <;> assumption

theorem State.weight_pos_of_mem_sharers {s : State} (htable : tableForm s.config.address s.peers)
    (hconfig : configForm s.config) : ∀ i ∈ s.sharers, 1 ≤ i.weight := by
  obtain ⟨-, -, hpeers⟩ := htable
  refine List.forall_mem_cons.2 ⟨State.ownWeight_pos hconfig, fun i hi => ?_⟩
  obtain ⟨p, hp, hsharer⟩ := List.mem_filterMap.1 hi
  obtain ⟨-, -, hrange⟩ := hpeers p hp
  exact Peer.weight_pos_of_sharer hrange hsharer

theorem State.sharers_pairwise_address {s : State} (htable : tableForm s.config.address s.peers) :
    s.sharers.Pairwise fun i j => i.address ≠ j.address := by
  obtain ⟨-, horder, hpeers⟩ := htable
  refine List.pairwise_cons.2 ⟨fun i hi => ?_, List.pairwise_filterMap.2 (horder.imp fun {p q} hlt i hi j hj => ?_)⟩
  · obtain ⟨p, hp, hsharer⟩ := List.mem_filterMap.1 hi
    obtain ⟨d, -, rfl⟩ := Peer.exists_truckPart_of_sharer hsharer
    obtain ⟨-, hother, -⟩ := hpeers p hp
    exact hother.symm
  · obtain ⟨d, -, rfl⟩ := Peer.exists_truckPart_of_sharer hi
    obtain ⟨e, -, rfl⟩ := Peer.exists_truckPart_of_sharer hj
    exact fun heq => hlt.ne (congrArg BitVec.toNat heq)

/-- The own sharer is the only one marked so. -/
theorem State.eq_ownSharer_of_mem_sharers {s : State} {i : Sharer} (hi : i ∈ s.sharers) (hown : i.own = true) :
    i = s.ownSharer := by
  rcases List.mem_cons.1 hi with rfl | hi
  · rfl
  · obtain ⟨p, -, hsharer⟩ := List.mem_filterMap.1 hi
    obtain ⟨d, -, rfl⟩ := Peer.exists_truckPart_of_sharer hsharer
    cases hown

/-- R19: the target is at most the effective demand. -/
theorem State.target_le_dSelf {s : State} (htable : tableForm s.config.address s.peers) (hconfig : configForm s.config) :
    s.target ≤ s.dSelf := by
  unfold State.target Division.own
  cases hfind : s.division.portions.find? (·.sharer.own) with
  | none => exact Nat.zero_le _
  | some p =>
    obtain ⟨hmem, hle⟩ := amount_le_demand_of_mem_divideBudget (State.weight_pos_of_mem_sharers htable hconfig)
      (State.sharers_pairwise_address htable) s.budget p (List.mem_of_find?_eq_some hfind)
    have hown := List.find?_some hfind
    rw [State.eq_ownSharer_of_mem_sharers hmem hown] at hle
    exact hle

end Sys2Proof.Machine

/-! ## The laws of the limit: what they read, and what keeps them -/

namespace Sys2Proof.Machine

/-! ### What the laws read (R52, R63) -/

/-- R54: a truck in ACTIVE is SILENT exactly while it is muted. -/
theorem State.mode_eq_silent_iff (s : State) :
    s.mode = .silent ↔ s.isTruck = true ∧ s.share.phase = .active ∧ s.muted = true := by
  unfold State.mode
  by_cases hactive : (s.isTruck && s.share.phase == .active) = true
  · obtain ⟨htruck, hphase⟩ : s.isTruck = true ∧ s.share.phase = .active := by simpa using hactive
    by_cases hmuted : s.muted = true
    · simp [htruck, hphase, hmuted]
    · simp only [hactive, if_true, hmuted, Bool.false_eq_true, if_false, and_false, iff_false]
      (repeat' split) <;> simp
  · rw [if_neg hactive]
    simp only [Bool.and_eq_true, beq_iff_eq, not_and] at hactive
    simpa using fun htruck hphase => absurd hphase (hactive htruck)

theorem State.mode_eq_none_iff (s : State) : s.mode = .none ↔ ¬ (s.isTruck = true ∧ s.share.phase = .active) := by
  unfold State.mode
  by_cases hactive : (s.isTruck && s.share.phase == .active) = true
  · rw [if_pos hactive]
    simp only [Bool.and_eq_true, beq_iff_eq] at hactive
    simp only [hactive, and_self, not_true, iff_false]
    (repeat' split) <;> simp
  · rw [if_neg hactive]
    simpa using hactive

theorem State.isTruck_congr {s u : State} (h : u.config = s.config) : u.isTruck = s.isTruck := by
  simp only [State.isTruck, h]

theorem State.degradedStands_iff (s : State) : s.degradedStands = true ↔
    s.isTruck = true ∧ (s.overflowStands = true ∨ s.openChannel 0 = true ∨ s.openChannel 1 = true) := by
  simp [State.degradedStands, or_assoc]

/-- Every floor condition of R63 puts the floor among the local caps of R6. -/
theorem State.floorInForce_of_floorStands {s : State} (h : s.floorStands) : s.floorInForce = true := by
  rw [State.floorInForce_iff]
  rcases h with hholds | hstorm | hdegraded
  · exact .inl hholds
  · exact .inr (.inr (.inr (.inr hstorm)))
  · obtain ⟨-, hover | hopen | hopen⟩ := s.degradedStands_iff.1 hdegraded
    · exact .inr (.inl hover)
    · exact .inr (.inr (.inl hopen))
    · exact .inr (.inr (.inr (.inl hopen)))

/-! ### A limit lowered -/

/-- From `l` to `m` the limit does not rise, and a period value within it stays within it (R63, R71). -/
structure LimitGenerator.LoweredTo (l m : LimitGenerator) : Prop where
  limit : m.limit ≤ l.limit
  pulse : l.periodValue ≤ l.limit → m.periodValue ≤ m.limit

theorem LimitGenerator.LoweredTo.refl (l : LimitGenerator) : l.LoweredTo l := ⟨le_rfl, id⟩

theorem LimitGenerator.LoweredTo.of_eq {l m : LimitGenerator} (h : m = l) : l.LoweredTo m := h ▸ .refl l

theorem LimitGenerator.LoweredTo.trans {l m n : LimitGenerator} (hlm : l.LoweredTo m) (hmn : m.LoweredTo n) : l.LoweredTo n :=
  ⟨hmn.limit.trans hlm.limit, hmn.pulse ∘ hlm.pulse⟩

theorem State.immediateCap_lowered (s : State) (c : Nat) : s.lim.LoweredTo (s.immediateCap c).lim where
  limit := by simp
  pulse h := by
    rw [State.immediateCap_periodValue s c h, State.immediateCap_limit]
    omega

theorem State.floorOnset_limit_le (s : State) : s.floorOnset.lim.limit ≤ s.config.floor := by
  simp [State.floorOnset]

theorem State.takeStormCount_lowered (s : State) : s.lim.LoweredTo s.takeStormCount.lim := by
  rcases s.takeStormCount_cases with ⟨hlim, -, -⟩ | ⟨-, -, -, hlim⟩
  · exact .of_eq hlim
  · exact hlim ▸ s.immediateCap_lowered _

/-- R66, R160: a storm that stands after a count stood before it, or its onset has laid the floor's cap. -/
theorem State.storm_of_takeStormCount (s : State) (h : s.takeStormCount.arc.storm = true) :
    s.arc.storm = true ∨ s.takeStormCount.lim.limit ≤ s.config.floor := by
  rcases s.takeStormCount_cases with ⟨-, -, hstorm⟩ | ⟨-, -, -, hlim⟩
  · exact .inl (hstorm h)
  · exact .inr (by simp [hlim])

/-! ### Laws kept -/

/-- From a state under the laws of R63, `u` is under them too, and its limit is no higher. -/
structure State.KeepsLaws (s u : State) : Prop where
  keeps : s.LimitLaws → u.LimitLaws ∧ u.lim.limit ≤ s.lim.limit

theorem State.KeepsLaws.refl (s : State) : s.KeepsLaws s := ⟨fun laws => ⟨laws, le_rfl⟩⟩

theorem State.KeepsLaws.trans {s u v : State} (hsu : s.KeepsLaws u) (huv : u.KeepsLaws v) : s.KeepsLaws v where
  keeps laws := by
    obtain ⟨hu, hule⟩ := hsu.keeps laws
    obtain ⟨hv, hvle⟩ := huv.keeps hu
    exact ⟨hv, hvle.trans hule⟩

theorem State.KeepsLaws.ite_self {s x : State} {c : Prop} [Decidable c] (h : c → s.KeepsLaws x) :
    s.KeepsLaws (if c then x else s) := by
  split
  case isTrue hc => exact h hc
  case isFalse => exact .refl s

/-- `u` differs from `s` in what the laws read only so: the limit is lowered, to a manual cap or a floor that is new; transmit
may have been enabled. -/
structure State.CappedTo (s u : State) : Prop where
  lim      : s.lim.LoweredTo u.lim
  config   : u.config = s.config
  budget   : u.share.budget = s.share.budget
  manual   : u.share.manualCap = s.share.manualCap ∨ u.lim.limit ≤ u.share.manualCap
  phase    : u.share.phase = s.share.phase
  panto    : u.panto.state = s.panto.state
  transmit : s.link.txEnable = true → u.link.txEnable = true
  floor    : u.floorStands → s.floorStands ∨ u.lim.limit ≤ s.config.floor

/-- Who may draw may go on drawing while the pantograph, the phase and what muting reads stay. -/
theorem State.mayDraw_of_same {s u : State} (hconfig : u.config = s.config) (hphase : u.share.phase = s.share.phase)
    (hpanto : u.panto.state = s.panto.state) (htransmit : s.link.txEnable = true → u.link.txEnable = true)
    (hdraw : s.mayDraw) : u.mayDraw := by
  obtain ⟨hcontact, hactive, hmode⟩ := hdraw
  refine ⟨hpanto.trans hcontact, hphase.trans hactive, fun hsilent => hmode ?_⟩
  obtain ⟨htruck, -, hmuted⟩ := u.mode_eq_silent_iff.1 hsilent
  refine s.mode_eq_silent_iff.2 ⟨State.isTruck_congr hconfig ▸ htruck, hactive, ?_⟩
  simp only [State.muted, hconfig, Bool.or_eq_true, Bool.not_eq_true'] at hmuted ⊢
  refine hmuted.imp_left fun hoff => ?_
  simpa [hoff] using htransmit

theorem State.CappedTo.keepsLaws {s u : State} (h : s.CappedTo u) : s.KeepsLaws u := by
  refine ⟨fun laws => ?_⟩
  have hle : u.lim.limit ≤ s.lim.limit := h.lim.limit
  refine ⟨⟨h.config ▸ hle.trans laws.rating, ?_, h.budget ▸ hle.trans laws.demand, fun hdraw => ?_, fun hfloor => ?_,
    h.lim.pulse laws.pulse, ?_⟩, hle⟩
  · exact h.manual.elim (fun heq => heq ▸ hle.trans laws.manual) id
  · have hzero : s.lim.limit = 0 := laws.zero (mt (State.mayDraw_of_same h.config h.phase h.panto h.transmit) hdraw)
    omega
  · rw [h.config]
    exact (h.floor hfloor).elim (fun hbefore => hle.trans (laws.floor hbefore)) id
  · rw [h.phase, h.panto, State.isTruck_congr h.config]
    exact laws.onWire

/-- The Limit Generator alone lowered. -/
theorem State.keeps_lim (s : State) {m : LimitGenerator} (h : s.lim.LoweredTo m) : s.KeepsLaws { s with lim := m } :=
  State.CappedTo.keepsLaws ⟨h, rfl, rfl, .inl rfl, rfl, rfl, id, .inl⟩

/-- What the laws of R63 read of a state. -/
structure LawView where
  config    : Configuration
  manualCap : Nat
  budget    : BudgetRecord
  phase     : Phase
  panto     : PantoState
  transmit  : Bool
  holds     : List Hold
  storm     : Bool
  overflow  : Option Nat
  openFlags : BitVec 8
  lim       : LimitGenerator

def State.lawView (s : State) : LawView where
  config := s.config
  manualCap := s.share.manualCap
  budget := s.share.budget
  phase := s.share.phase
  panto := s.panto.state
  transmit := s.link.txEnable
  holds := s.holds
  storm := s.arc.storm
  overflow := s.share.overflowTimer
  openFlags := s.sweeper.openFlags
  lim := s.lim

/-- Nothing the laws read has changed. -/
theorem State.KeepsLaws.of_view {s u : State} (h : u.lawView = s.lawView) : s.KeepsLaws u := by
  simp only [State.lawView, LawView.mk.injEq] at h
  obtain ⟨hconfig, hmanual, hbudget, hphase, hpanto, htransmit, hholds, hstorm, hoverflow, hopen, hlim⟩ := h
  refine State.CappedTo.keepsLaws
    ⟨.of_eq hlim, hconfig, hbudget, .inl hmanual, hphase, hpanto, htransmit.trans, fun hfloor => .inl ?_⟩
  simpa only [State.floorStands, State.degradedStands, State.isTruck, State.overflowStands, State.openChannel, hconfig, hholds,
    hstorm, hoverflow, hopen] using hfloor

/-- A limit at 0 is under every law but that of the phase. -/
theorem State.KeepsLaws.of_limit_zero {s u : State} (hlim : s.lim.LoweredTo u.lim) (hzero : s.LimitLaws → u.lim.limit = 0)
    (hwire : s.LimitLaws → u.share.phase ≠ .offline → u.panto.state = .contact ∧ u.isTruck = true) : s.KeepsLaws u := by
  refine ⟨fun laws => ?_⟩
  have h0 : u.lim.limit = 0 := hzero laws
  refine ⟨⟨?_, ?_, ?_, fun _ => h0, fun _ => ?_, hlim.pulse laws.pulse, hwire laws⟩, hlim.limit⟩ <;> omega

theorem State.LimitLaws.limit_zero_of_not_active {s : State} (laws : s.LimitLaws) (h : s.share.phase ≠ .active) :
    s.lim.limit = 0 :=
  laws.zero fun hdraw => h hdraw.2.1

/-- Outside ACTIVE the limit is 0 already. -/
theorem State.KeepsLaws.of_not_active {s u : State} (hs : s.LimitLaws → s.share.phase ≠ .active) (hlim : s.lim.LoweredTo u.lim)
    (hwire : s.LimitLaws → u.share.phase ≠ .offline → u.panto.state = .contact ∧ u.isTruck = true) : s.KeepsLaws u :=
  .of_limit_zero hlim (fun laws => Nat.le_zero.1 (laws.limit_zero_of_not_active (hs laws) ▸ hlim.limit)) hwire

/-- In LISTEN and CROSSING the pantograph stays in CONTACT. -/
theorem State.KeepsLaws.of_listen_or_crossing {s u : State} (hs : s.share.phase = .listen ∨ s.share.phase = .crossing)
    (hlim : s.lim.LoweredTo u.lim) (hpanto : u.panto.state = s.panto.state) (hconfig : u.config = s.config) : s.KeepsLaws u := by
  have hphase : s.share.phase ≠ .active ∧ s.share.phase ≠ .offline := by rcases hs with h | h <;> simp [h]
  refine .of_not_active (fun _ => hphase.1) hlim fun laws _ => ?_
  rw [hpanto, State.isTruck_congr hconfig]
  exact laws.onWire hphase.2

theorem State.KeepsLaws.of_offline {s u : State} (hs : s.LimitLaws → s.share.phase = .offline)
    (hphase : u.share.phase = s.share.phase) (hlim : s.lim.LoweredTo u.lim) : s.KeepsLaws u :=
  .of_not_active (fun laws => by simp [hs laws]) hlim fun laws hne => absurd (hphase.trans (hs laws)) hne

theorem State.LimitLaws.offline_of_not_contact {s : State} (laws : s.LimitLaws) (h : s.panto.state ≠ .contact) :
    s.share.phase = .offline := by
  by_contra hphase
  exact h (laws.onWire hphase).1

theorem State.LimitLaws.offline_of_feeder {s : State} (laws : s.LimitLaws) (h : s.isTruck = false) :
    s.share.phase = .offline := by
  by_contra hphase
  have htruck := (laws.onWire hphase).2
  simp [h] at htruck

/-- Off the wire the phase is OFFLINE, whatever the pantograph does there (R46, R49). -/
theorem State.KeepsLaws.of_not_contact {s u : State} (hs : s.panto.state ≠ .contact) (hphase : u.share.phase = s.share.phase)
    (hlim : s.lim.LoweredTo u.lim) : s.KeepsLaws u :=
  .of_offline (fun laws => laws.offline_of_not_contact hs) hphase hlim

end Sys2Proof.Machine

/-! ## The laws of the limit: the shared operations keep them -/

namespace Sys2Proof.Machine

/-! ### Time, port, link -/

theorem State.keeps_takenAt (t : Nat) (s : State) : s.KeepsLaws (s.takenAt t) := .of_view rfl

theorem State.keeps_answer (s : State) (st : Status) (d : List Byte) : s.KeepsLaws (s.answer st d) := .of_view rfl

theorem State.keeps_answerOk (s : State) : s.KeepsLaws s.answerOk := .of_view rfl

theorem State.keeps_raise (s : State) (e : Event) : s.KeepsLaws (s.raise e) := .of_view rfl

theorem State.keeps_raiseIf (s : State) (b : Bool) (e : Event) : s.KeepsLaws (s.raiseIf b e) :=
  .of_view (by simp [State.lawView])

/-- A port command keeps the laws where its own rule does. -/
theorem keeps_onPort (t : Nat) (s : State) {body : State → State} (h : ∀ a : State, a.KeepsLaws (body a)) :
    s.KeepsLaws (onPort t s body) := by
  refine (s.keeps_takenAt t).trans ?_
  unfold onPort
  dsimp only
  split
  · exact .refl _
  · exact State.keeps_answer ..
  · exact State.keeps_answer ..
  · exact h _

theorem keeps_truckOnly (s : State) {body : State → State} (h : s.KeepsLaws (body s)) : s.KeepsLaws (truckOnly s body) := by
  unfold truckOnly
  split
  · exact h
  · exact s.keeps_answer ..

theorem State.keeps_offer (s : State) (k : Slot) (p : Payload) : s.KeepsLaws (s.offer k p) :=
  .of_view (by simp [State.lawView])

@[simp] theorem CarrierLink.setSlot_txEnable (l : CarrierLink) (k : Slot) (q : Option Queued) :
    (l.setSlot k q).txEnable = l.txEnable := by
  cases k <;> rfl

@[simp] theorem State.deferFrame_txEnable (s : State) (k : Slot) (q : Queued) :
    (s.deferFrame k q).link.txEnable = s.link.txEnable := by
  unfold State.deferFrame
  split <;> simp

theorem State.keeps_deferFrame (s : State) (k : Slot) (q : Queued) : s.KeepsLaws (s.deferFrame k q) :=
  .of_view (by simp [State.lawView])

theorem State.keeps_startSending (s : State) (k : Slot) (q : Queued) : s.KeepsLaws (s.startSending k q) :=
  .of_view (by simp [State.lawView, State.startSending])

/-! ### The feeder -/

theorem State.keeps_callShed (s : State) (n : Nat) : s.KeepsLaws (s.callShed n) :=
  (s.keeps_offer ..).trans (State.keeps_raiseIf ..)

theorem State.keeps_repeatShed (s : State) : s.KeepsLaws s.repeatShed := (s.keeps_callShed _).trans (.of_view rfl)

theorem State.keeps_calmFeeder (s : State) : s.KeepsLaws s.calmFeeder := .of_view rfl

theorem State.keeps_setInFeeder (s : State) : s.KeepsLaws s.setInFeeder := by
  unfold State.setInFeeder
  refine .ite_self fun _ => ?_
  split
  · exact .ite_self fun _ => .of_view rfl
  · split
    · exact .refl s
    · exact .of_view rfl
  · exact State.KeepsLaws.trans (.ite_self fun _ => s.keeps_repeatShed) (.of_view rfl)

/-! ### Caps and their onsets (R66) -/

theorem State.keeps_takeStormCount (s : State) : s.KeepsLaws s.takeStormCount := by
  refine State.CappedTo.keepsLaws ⟨s.takeStormCount_lowered, by simp, by simp, .inl (by simp), by simp, by simp,
    fun htx => by simpa using htx, ?_⟩
  rintro (hholds | hstorm | hdegraded)
  · exact .inl (.inl (by simpa using hholds))
  · exact (s.storm_of_takeStormCount hstorm).imp_left fun hbefore => .inr (.inl hbefore)
  · refine .inl (.inr (.inr ?_))
    simpa [State.degradedStands, State.isTruck, State.overflowStands, State.openChannel] using hdegraded

theorem State.keeps_logRecord (s : State) (r : ArcRecord) : s.KeepsLaws (s.logRecord r) :=
  .trans (u := { s with arc := { s.arc with log := enterLog s.arc.log r } }) (.of_view rfl) (State.keeps_takeStormCount _)

theorem State.keeps_settleArcs (l : List ArcRecord) (s : State) : s.KeepsLaws (s.settleArcs l) := by
  induction l generalizing s with
  | nil => exact .of_view rfl
  | cons r rest ih =>
    unfold State.settleArcs
    split
    · exact (s.keeps_logRecord r).trans (ih _)
    · exact .of_view rfl

theorem State.keeps_changeArcs (s : State) (l : List ArcRecord) : s.KeepsLaws (s.changeArcs l) := by
  unfold State.changeArcs
  split
  · exact .refl s
  · exact s.keeps_settleArcs l

theorem State.flushArcs_lowered (s : State) : s.lim.LoweredTo s.flushArcs.lim := by
  unfold State.flushArcs
  split
  · exact .refl _
  · exact State.takeStormCount_lowered
      { s with arc := { s.arc with log := s.arc.pending.foldl enterLog s.arc.log, pending := [] } }

theorem State.enterLowered_lowered (s : State) : s.lim.LoweredTo s.enterLowered.lim :=
  State.flushArcs_lowered { s with panto := s.panto.enter .lowered }

/-- Nothing the laws read differs but the floor conditions. -/
def State.SameButFloor (s u : State) : Prop := u.lawView = { s.lawView with
  holds := u.holds, storm := u.arc.storm, overflow := u.share.overflowTimer, openFlags := u.sweeper.openFlags }

/-- No floor condition is new. -/
theorem State.SameButFloor.keepsLaws {s u : State} (h : s.SameButFloor u) (hfloor : u.floorStands → s.floorStands) :
    s.KeepsLaws u := by
  simp only [State.SameButFloor, State.lawView, LawView.mk.injEq] at h
  obtain ⟨hconfig, hmanual, hbudget, hphase, hpanto, htransmit, -, -, -, -, hlim⟩ := h
  exact State.CappedTo.keepsLaws
    ⟨.of_eq hlim, hconfig, hbudget, .inl hmanual, hphase, hpanto, htransmit.trans, fun hu => .inl (hfloor hu)⟩

/-- R66: whatever floor conditions are new, their onset lays the floor's cap. -/
theorem State.SameButFloor.keepsLaws_floorOnset {s a : State} (h : s.SameButFloor a) : s.KeepsLaws a.floorOnset := by
  simp only [State.SameButFloor, State.lawView, LawView.mk.injEq] at h
  obtain ⟨hconfig, hmanual, hbudget, hphase, hpanto, htransmit, -, -, -, -, hlim⟩ := h
  refine State.CappedTo.keepsLaws ⟨hlim ▸ a.immediateCap_lowered _, by simpa, by simpa, .inl (by simpa), by simpa, by simpa,
    fun htx => by simpa [htransmit], fun _ => .inr (hconfig ▸ a.floorOnset_limit_le)⟩

/-- A list that is not newly non-empty. -/
theorem State.keeps_holds (s : State) {l : List Hold} (h : l ≠ [] → s.holds ≠ []) : s.KeepsLaws { s with holds := l } :=
  State.SameButFloor.keepsLaws rfl (Or.imp_left h)

/-- R82: the list becomes non-empty only under the floor's cap. -/
theorem State.keeps_withHolds (s : State) (l : List Hold) : s.KeepsLaws (s.withHolds l) := by
  unfold State.withHolds
  dsimp only
  split
  case isTrue => exact State.SameButFloor.keepsLaws_floorOnset rfl
  case isFalse honset =>
    refine s.keeps_holds fun hl hempty => honset ?_
    simp [hempty, hl]

theorem State.keeps_takeShed (s : State) (o : Address) (n : Nat) (r : Byte) : s.KeepsLaws (s.takeShed o n r) := by
  unfold State.takeShed
  refine .ite_self fun _ => ?_
  split
  · refine s.keeps_holds fun hl hempty => hl ?_
    simp [removeHold, hempty]
  · exact s.keeps_withHolds _

/-- R33: the overflow condition of a truck begins only under the floor's cap, or where DEGRADED stood. -/
theorem State.keeps_refusePeer (s : State) : s.KeepsLaws s.refusePeer := by
  unfold State.refusePeer
  dsimp only
  split
  case isFalse => exact s.keeps_raise _
  case isTrue =>
    split
    case isTrue hstood => exact State.SameButFloor.keepsLaws rfl fun _ => .inr (.inr hstood)
    case isFalse => exact State.SameButFloor.keepsLaws_floorOnset rfl

theorem State.keeps_takePeer (s : State) (p : Peer) : s.KeepsLaws (s.takePeer p) := by
  unfold State.takePeer
  split
  · exact .of_view rfl
  · split
    · exact .of_view rfl
    · split
      · exact .of_view rfl
      · exact s.keeps_refusePeer

/-- R67: a new manual cap is laid on the limit at once. -/
theorem State.keeps_newCap (s : State) (c : Nat) :
    s.KeepsLaws (State.immediateCap { s with share := { s.share with manualCap := c } } c) := by
  refine State.CappedTo.keepsLaws ⟨State.immediateCap_lowered { s with share := { s.share with manualCap := c } } c, by simp,
    by simp, .inr (by simp), by simp, by simp, fun htx => by simpa using htx, fun hfloor => .inl ?_⟩
  simpa [State.floorStands, State.degradedStands, State.isTruck, State.overflowStands, State.openChannel] using hfloor

/-! ### Reception -/

theorem State.keeps_takeFrame (s : State) (f : Frame) (crc : Half) : s.KeepsLaws (s.takeFrame f crc) := by
  unfold State.takeFrame
  refine .ite_self fun _ => ?_
  split
  · exact s.keeps_raise _
  · unfold State.handOn
    split
    · exact s.keeps_takePeer _
    · exact s.keeps_takePeer _
    · exact s.keeps_takeShed ..
    · exact .of_view rfl

theorem State.keeps_takeCharacter (s : State) (c : Character) : s.KeepsLaws (s.takeCharacter c) := by
  unfold State.takeCharacter
  refine .ite_self fun _ => ?_
  dsimp only
  split
  · refine .trans ?_ (State.keeps_takeFrame _ _ _)
    exact .of_view rfl
  · exact .of_view rfl

theorem State.keeps_hear (l : List Character) (s : State) : s.KeepsLaws (s.hear l) := by
  induction l generalizing s with
  | nil => exact .refl s
  | cons c rest ih => exact (s.keeps_takeCharacter c).trans (ih _)

/-! ### The wire and the phases (R46 to R51, R90 to R99) -/

/-- A cap of 0 leaves a limit of 0. -/
theorem State.immediateCap_zero_limit (s : State) : (s.immediateCap 0).lim.limit = 0 := by simp

/-- The pantograph, by now in the state of `a`, leaves CONTACT: OFFLINE and limit 0. -/
theorem State.keeps_contactLeft {s a : State} (down : Bool) (hconfig : a.config = s.config)
    (hphase : a.share.phase = s.share.phase) (hlim : a.lim = s.lim) : s.KeepsLaws (a.contactLeft down) := by
  by_cases htruck : a.isTruck = true
  · obtain ⟨hshare, hcap, -⟩ := a.contactLeft_spec down htruck
    have hu : (a.contactLeft down).lim = (a.immediateCap 0).lim := hcap
    refine .of_limit_zero (hu ▸ hlim ▸ a.immediateCap_lowered 0) (fun _ => hu ▸ a.immediateCap_zero_limit) fun _ hne => ?_
    exact absurd (by rw [hshare]) hne
  · rw [show a.contactLeft down = a from if_neg htruck]
    exact .of_offline (fun laws => laws.offline_of_feeder (State.isTruck_congr hconfig ▸ Bool.eq_false_iff.2 htruck)) hphase
      (.of_eq hlim)

/-- A crossing taken lays a cap of 0 and leaves the pantograph as it is (R91). -/
theorem State.requestCrossing_lim_panto {s : State} (h : (s.isTruck && s.share.phase == .active) = true) :
    s.requestCrossing.lim = (s.immediateCap 0).lim ∧ s.requestCrossing.panto = s.panto := by
  unfold State.requestCrossing
  rw [if_pos h]
  dsimp only
  split <;> simp

theorem State.keeps_requestCrossing (s : State) : s.KeepsLaws s.requestCrossing := by
  by_cases h : (s.isTruck && s.share.phase == .active) = true
  · obtain ⟨hlim, hpanto⟩ := State.requestCrossing_lim_panto h
    obtain ⟨htruck, hactive⟩ : s.isTruck = true ∧ s.share.phase = .active := by simpa using h
    refine .of_limit_zero (hlim ▸ s.immediateCap_lowered 0) (fun _ => hlim ▸ s.immediateCap_zero_limit) fun laws _ => ?_
    exact ⟨hpanto ▸ (laws.onWire (by simp [hactive])).1, (State.isTruck_congr (by simp)).trans htruck⟩
  · rw [State.requestCrossing, if_neg h]
    exact .refl s

theorem State.keeps_completeCrossing {s : State} (h : s.share.phase = .crossing) : s.KeepsLaws s.completeCrossing :=
  .of_listen_or_crossing (.inr h) (.of_eq (by simp)) (by simp) (by simp)

theorem State.keeps_setInCrossing {s : State} (h : s.share.phase = .crossing) : s.KeepsLaws s.setInCrossing := by
  unfold State.setInCrossing
  dsimp only
  split
  · exact .refl s
  · exact .ite_self fun _ => .of_view rfl
  · exact .ite_self fun _ => .of_view rfl
  · exact .ite_self fun _ => State.keeps_completeCrossing h

theorem State.keeps_setInCollapse (s : State) : s.KeepsLaws s.setInCollapse := by
  unfold State.setInCollapse
  split
  · exact .ite_self fun _ => .of_view rfl
  · exact .of_view rfl

theorem State.keeps_setInEpisode (s : State) : s.KeepsLaws s.setInEpisode := .ite_self fun _ => .of_view rfl

theorem State.keeps_setInShareEngine (s : State) : s.KeepsLaws s.setInShareEngine :=
  (s.keeps_setInCollapse.trans (State.keeps_setInEpisode _)).trans
    (.ite_self fun hcrossing => State.keeps_setInCrossing (by simpa using hcrossing))

/-- R47: only a truck leaves OFFLINE. -/
theorem State.isTruck_of_contactEntered {s : State} (h : s.contactEntered.share.phase ≠ .offline)
    (hs : s.share.phase = .offline) : s.isTruck = true := by
  unfold State.contactEntered at h
  split at h
  case isTrue hc =>
    simp only [Bool.and_eq_true] at hc
    exact hc.1
  case isFalse => exact absurd hs h

/-- R55, R116: `a`, by now without transmit, is SILENT with limit 0. -/
theorem State.keeps_enterSilent {s a : State} (hconfig : a.config = s.config) (hphase : a.share.phase = s.share.phase)
    (hpanto : a.panto.state = s.panto.state) (hlim : a.lim = s.lim) : s.KeepsLaws a.enterSilent := by
  refine .of_limit_zero (hlim ▸ a.immediateCap_lowered 0) (fun _ => a.immediateCap_zero_limit) fun laws hne => ?_
  have hwire := laws.onWire (by simpa [State.enterSilent, hphase] using hne)
  exact ⟨by simp [hpanto, hwire.1], (State.isTruck_congr (by simp [hconfig])).trans hwire.2⟩

/-! ### The pantograph -/

@[simp] theorem State.setInEpisodeOfHeads_state (s : State) : s.setInEpisodeOfHeads.panto.state = s.panto.state := by
  unfold State.setInEpisodeOfHeads
  split <;> rfl

@[simp] theorem State.regulate_state (s : State) : s.regulate.panto.state = s.panto.state := by
  unfold State.regulate
  split <;> rfl

@[simp] theorem State.watchLoss_state (s : State) : s.watchLoss.panto.state = s.panto.state := by
  unfold State.watchLoss
  split <;> rfl

@[simp] theorem State.watchImbalance_state (s : State) : s.watchImbalance.panto.state = s.panto.state := by
  unfold State.watchImbalance
  split <;> rfl

theorem State.setInLowering_lowered (s : State) : s.lim.LoweredTo s.setInLowering.lim := by
  unfold State.setInLowering
  split
  · exact s.enterLowered_lowered
  · exact .refl _

theorem State.setInPantograph_lowered (s : State) : s.lim.LoweredTo s.setInPantograph.lim := by
  unfold State.setInPantograph
  dsimp only
  split
  case h_5 => exact .trans (.of_eq (by simp)) (State.setInLowering_lowered _)
  all_goals exact .of_eq (by simp)

/-- In CONTACT a set leaves the pantograph there, and elsewhere the phase is OFFLINE (R122). -/
theorem State.keeps_setInPantograph (s : State) : s.KeepsLaws s.setInPantograph := by
  by_cases hcontact : s.panto.state = .contact
  · have hset : s.setInPantograph = s.setInEpisodeOfHeads.regulate.watchLoss.watchImbalance := by
      simp [State.setInPantograph, hcontact]
    exact .of_view (by simp [hset, State.lawView])
  · exact .of_not_contact hcontact (by simp) s.setInPantograph_lowered

theorem State.keeps_passSet (s : State) : s.KeepsLaws s.passSet := by
  unfold State.passSet
  split
  · exact s.keeps_setInShareEngine.trans (State.keeps_setInPantograph _)
  · exact s.keeps_setInFeeder

theorem State.keeps_sensorFaultSet (s : State) : s.KeepsLaws s.sensorFaultSet := by
  unfold State.sensorFaultSet
  split
  case h_1 => exact State.keeps_contactLeft true rfl rfl rfl
  case h_2 hraising => exact .of_not_contact (by simp [hraising]) rfl (.refl _)
  all_goals exact .refl s

theorem State.keeps_contactLoss (s : State) : s.KeepsLaws s.contactLoss := by
  unfold State.contactLoss
  dsimp only
  split
  · exact State.keeps_contactLeft true rfl rfl rfl
  · exact State.keeps_contactLeft false rfl rfl rfl

end Sys2Proof.Machine

/-! ## The laws of the limit: every command but the tick keeps them -/

namespace Sys2Proof.Machine

/-- Whatever state the command answers with, the laws are kept. -/
def State.KeptBy (s : State) (r : Result) : Prop := ∀ u, r = .next u → s.KeepsLaws u

theorem State.KeptBy.next {s u : State} (h : s.KeepsLaws u) : s.KeptBy (.next u) := by
  rintro v ⟨⟩
  exact h

/-- A port command whose own rule keeps the laws. -/
theorem State.KeptBy.port (t : Nat) (s : State) {body : State → State} (h : ∀ a : State, a.KeepsLaws (body a)) :
    s.KeptBy (.next (onPort t s body)) :=
  .next (keeps_onPort t s h)

/-- An event taken at its moment. -/
theorem State.KeptBy.event {t : Nat} {s u : State} (h : (s.takenAt t).KeepsLaws u) : s.KeptBy (.next u) :=
  .next ((s.keeps_takenAt t).trans h)

/-! ### Port commands -/

theorem execReadPeer_kept (t : Nat) (index : Byte) (s : State) : s.KeptBy (execReadPeer t index s) := by
  refine .port t s fun a => ?_
  split
  · exact a.keeps_answer ..
  · split <;> exact a.keeps_answer ..

theorem execReadArc_kept (t : Nat) (index : Byte) (s : State) : s.KeptBy (execReadArc t index s) := by
  refine .port t s fun a => ?_
  split
  · exact a.keeps_answer ..
  · split <;> exact a.keeps_answer ..

theorem execWriteDemand_kept (t : Nat) (demand : Half) (cls : Byte) (s : State) : s.KeptBy (execWriteDemand t demand cls s) := by
  refine .port t s fun a => ?_
  split
  · exact .of_view rfl
  · exact a.keeps_answer ..

theorem execWriteCap_kept (t : Nat) (cap : Half) (s : State) : s.KeptBy (execWriteCap t cap s) :=
  .port t s fun a => a.keeps_answerOk.trans (State.keeps_newCap _ _)

theorem execTransmitOn_kept (t : Nat) (s : State) : s.KeptBy (execTransmitOn t s) := by
  refine .port t s fun a => State.CappedTo.keepsLaws ?_
  exact ⟨.refl _, rfl, rfl, .inl rfl, rfl, rfl, fun _ => rfl, .inl⟩

theorem execTransmitOff_kept (t : Nat) (s : State) : s.KeptBy (execTransmitOff t s) := by
  refine .port t s fun a => a.keeps_answerOk.trans (.ite_self fun _ => ?_)
  generalize a.answerOk = b
  by_cases hactive : (b.isTruck && b.share.phase == .active) = true
  · simp only [hactive, if_true]
    exact State.keeps_enterSilent (by simp) (by simp) (by simp) (by simp)
  · simp only [hactive, Bool.false_eq_true, if_false]
    refine .of_not_active (fun laws hphase => hactive ?_) (.refl _) fun laws => laws.onWire
    simp [hphase, laws.onWire]

theorem execRaise_kept (t : Nat) (emlower : Bool) (s : State) : s.KeptBy (execRaise t emlower s) := by
  refine .port t s fun a => keeps_truckOnly a ?_
  split
  case h_1 hlowered =>
    split
    · exact a.keeps_answer ..
    · exact .of_not_contact (by simp [hlowered]) rfl (.refl _)
  all_goals exact a.keeps_answer ..

theorem execLower_kept (t : Nat) (s : State) : s.KeptBy (execLower t s) := by
  refine .port t s fun a => keeps_truckOnly a ?_
  split
  case h_1 => exact State.keeps_contactLeft true rfl rfl rfl
  case h_2 hraising => exact .of_not_contact (by simp [hraising]) rfl (.refl _)
  all_goals exact a.keeps_answer ..

theorem execClearFault_kept (t : Nat) (s : State) : s.KeptBy (execClearFault t s) := by
  refine .port t s fun a => keeps_truckOnly a ?_
  split
  case h_1 hfaulted =>
    split
    · exact a.keeps_answer ..
    · split
      · exact .of_not_contact (by simp [hfaulted]) (by simp) (State.enterLowered_lowered a.answerOk)
      · exact .of_not_contact (by simp [hfaulted]) rfl (.refl _)
  all_goals exact a.keeps_answer ..

theorem execUnknownCommand_kept (t : Nat) (code : Byte) (s : State) : s.KeptBy (execUnknownCommand t code s) := by
  unfold execUnknownCommand
  split
  · exact .port t s fun a => a.keeps_answer ..
  · exact .next (s.keeps_takenAt t)

/-! ### The link -/

theorem execFrameDue_kept (t : Nat) (carrier : Bool) (s : State) : s.KeptBy (execFrameDue t carrier s) := by
  refine .event (t := t) ?_
  generalize s.takenAt t = a
  split
  · refine .ite_self fun _ => ?_
    split
    · split
      · exact a.keeps_deferFrame ..
      · exact a.keeps_startSending ..
    · exact .of_view (by simp [State.lawView])
  all_goals exact .refl a

theorem execTransmissionEnd_kept (t : Nat) (s : State) : s.KeptBy (execTransmissionEnd t s) := by
  refine .event (t := t) ?_
  generalize s.takenAt t = a
  split
  · exact .ite_self fun _ => .of_view (by simp [State.lawView])
  all_goals exact .refl a

theorem execReceiveGapTimeout_kept (heard : Heard) (s : State) : s.KeptBy (execReceiveGapTimeout heard s) :=
  .event ((State.keeps_hear ..).trans (.ite_self fun _ => .of_view rfl))

/-! ### Timers of the tables and the phases -/

theorem execListenTimerExpiry_kept (t : Nat) (s : State) : s.KeptBy (execListenTimerExpiry t s) := by
  refine .event (t := t) (.ite_self fun h => ?_)
  simp only [Bool.and_eq_true, beq_iff_eq] at h
  exact .of_listen_or_crossing (.inl h.1) (.refl _) rfl rfl

theorem execCrossingTimerExpiry_kept (t : Nat) (s : State) : s.KeptBy (execCrossingTimerExpiry t s) := by
  refine .event (t := t) (.ite_self fun h => ?_)
  simp only [Bool.and_eq_true, beq_iff_eq] at h
  exact .of_listen_or_crossing (.inr h.1) (.refl _) rfl rfl

/-- R33: the overflow condition ends. -/
theorem execOverflowTimerExpiry_kept (t : Nat) (s : State) : s.KeptBy (execOverflowTimerExpiry t s) := by
  refine .event (t := t) (.ite_self fun _ => State.SameButFloor.keepsLaws rfl ?_)
  refine Or.imp_right (Or.imp_right fun h => ?_)
  obtain ⟨htruck, hover | hopen⟩ := (State.degradedStands_iff _).1 h
  · cases hover
  · exact (State.degradedStands_iff _).2 ⟨htruck, .inr hopen⟩

theorem execCollapseTimerExpiry_kept (t : Nat) (s : State) : s.KeptBy (execCollapseTimerExpiry t s) := by
  refine .event (t := t) (.ite_self fun _ => ?_)
  refine .trans (.trans (.trans ?_ (State.keeps_offer _ _ _)) (State.keeps_takeShed _ _ _ _)) (State.keeps_raise _ _)
  exact .of_view rfl

theorem execHoldExpiry_kept (t : Nat) (s : State) : s.KeptBy (execHoldExpiry t s) := by
  refine .event (t := t) ?_
  generalize s.takenAt t = a
  split
  · exact .refl a
  case h_2 hholds => exact .ite_self fun _ => a.keeps_holds fun _ => by simp [hholds]

/-! ### The pantograph -/

theorem PantoState.ne_contact_of_and {p q : PantoState} {b : Bool} (h : (p == q && b) = true) (hq : q ≠ .contact) :
    p ≠ .contact := by
  simp only [Bool.and_eq_true, beq_iff_eq] at h
  exact h.1 ▸ hq

/-- R47, R125: a raise that makes contact finds the phase OFFLINE. -/
theorem execContactQualificationExpiry_kept (t : Nat) (s : State) : s.KeptBy (execContactQualificationExpiry t s) := by
  refine .event (t := t) (.ite_self fun h => ?_)
  generalize s.takenAt t = a at h
  have hoffline : a.LimitLaws → a.share.phase = .offline := fun laws =>
    laws.offline_of_not_contact (PantoState.ne_contact_of_and h (by decide))
  refine .of_not_active (fun laws => by simp [hoffline laws]) (.of_eq (by simp)) fun laws hne => ⟨by simp, ?_⟩
  exact (State.isTruck_congr (by simp)).trans (State.isTruck_of_contactEntered hne (hoffline laws))

theorem execRaiseTimerExpiry_kept (t : Nat) (s : State) : s.KeptBy (execRaiseTimerExpiry t s) :=
  .event (t := t) (.ite_self fun h => .of_not_contact (PantoState.ne_contact_of_and h (by decide)) rfl (.refl _))

theorem execUnloadTimerExpiry_kept (t : Nat) (s : State) : s.KeptBy (execUnloadTimerExpiry t s) :=
  .event (t := t) (.ite_self fun h => .of_not_contact (PantoState.ne_contact_of_and h (by decide)) rfl (.refl _))

theorem execLowerTimerExpiry_kept (t : Nat) (s : State) : s.KeptBy (execLowerTimerExpiry t s) :=
  .event (t := t) (.ite_self fun h => .of_not_contact (PantoState.ne_contact_of_and h (by decide)) rfl (.refl _))

theorem execLossTimerExpiry_kept (t : Nat) (s : State) : s.KeptBy (execLossTimerExpiry t s) := by
  refine .event (t := t) (.ite_self fun _ => ?_)
  generalize s.takenAt t = a
  split
  case h_1 => exact a.keeps_contactLoss
  case h_2 hunloading =>
    unfold State.lossInUnloading
    split <;> exact .of_not_contact (by simp [hunloading]) rfl (.refl _)
  all_goals exact .refl a

theorem execImbalanceTimerExpiry_kept (t : Nat) (s : State) : s.KeptBy (execImbalanceTimerExpiry t s) := by
  refine .event (t := t) (.ite_self fun _ => .trans ?_ (State.keeps_raiseIf _ _ _))
  exact .of_view rfl

theorem execEmlowerNFall_kept (t : Nat) (s : State) : s.KeptBy (execEmlowerNFall t s) := by
  refine .event (t := t) (.ite_self fun _ => ?_)
  generalize s.takenAt t = a
  split
  case h_1 hraising => exact .of_not_contact (by simp [hraising]) rfl (.refl _)
  case h_2 => exact State.keeps_contactLeft true rfl rfl rfl
  case h_3 hunloading => exact .of_not_contact (by simp [hunloading]) rfl (.refl _)
  all_goals exact .refl a

/-! ### The Sweeper and the Arc Monitor -/

/-- A test sets or clears the OPEN flag of its channel only (R143). -/
theorem getLsbD_setFlag (flags : BitVec 8) (channel : Fin 8) (value : Bool) (n : Nat) :
    (setFlag flags channel value).getLsbD n = if n = channel then value else flags.getLsbD n := by
  have hmask : (1#8 <<< channel.val).getLsbD n = decide (n = channel) := by
    have hchannel : channel.val < 8 := channel.isLt
    simp only [BitVec.getLsbD_shiftLeft, BitVec.getLsbD_one]
    grind
  by_cases hn : n = channel
  · cases value <;> simp [setFlag, hn]
  · cases value
    · simpa [setFlag, hmask, hn] using BitVec.lt_of_getLsbD
    · simp [setFlag, hmask, hn]

/-- The state with a test's result taken (R142, R143). -/
def State.tested (s : State) (result : Bool) : State := { s with sweeper := s.sweeper.finishTest result s.clock }

theorem State.openChannel_tested (s : State) (result : Bool) (n : Nat) :
    (s.tested result).openChannel n = if n = s.sweeper.rotation then result else s.openChannel n :=
  getLsbD_setFlag ..

/-- DEGRADED begins with a test only where the test finds a channel OPEN that was not (R143, R144). -/
theorem State.degradedStands_of_tested {s : State} {result : Bool}
    (hresult : result = true → s.openChannel s.sweeper.rotation = true) (h : (s.tested result).degradedStands = true) :
    s.degradedStands = true := by
  have hopen : ∀ n, (s.tested result).openChannel n = true → s.openChannel n = true := by
    intro n hn
    rw [State.openChannel_tested] at hn
    split at hn
    case isTrue heq => exact heq ▸ hresult hn
    case isFalse => exact hn
  obtain ⟨htruck, hstands⟩ := (State.degradedStands_iff _).1 h
  exact (State.degradedStands_iff _).2 ⟨htruck, hstands.imp_right (Or.imp (hopen 0) (hopen 1))⟩

theorem State.keeps_tested {s : State} {result : Bool} (h : (s.tested result).degradedStands = true → s.degradedStands = true) :
    s.KeepsLaws (s.tested result) :=
  State.SameButFloor.keepsLaws rfl (Or.imp_right (Or.imp_right h))

/-- R56, R133, R144: DEGRADED's onset lays the floor's cap, and then the sensor fault lowers the pantograph. -/
theorem State.keeps_openedOnTruck (s : State) (result faultBefore : Bool) :
    s.KeepsLaws ((s.tested result).openedOnTruck s.degradedStands faultBefore) := by
  unfold State.openedOnTruck
  dsimp only
  have honset : s.KeepsLaws (if (((s.tested result).raise .sensorOpen).degradedStands && !s.degradedStands) = true then
      ((s.tested result).raise .sensorOpen).floorOnset else (s.tested result).raise .sensorOpen) := by
    split
    case isTrue => exact State.SameButFloor.keepsLaws_floorOnset rfl
    case isFalse hnone =>
      refine (State.keeps_tested fun hdegraded => ?_).trans (State.keeps_raise _ _)
      by_contra hbefore
      have hraised : ((s.tested result).raise .sensorOpen).degradedStands = true := hdegraded
      exact hnone (by simp [hbefore, hraised])
  exact honset.trans (.ite_self fun _ => State.keeps_sensorFaultSet _)

theorem State.keeps_openedOnFeeder {s : State} (result : Bool) (n : Nat) (hfeeder : s.isTruck = false) :
    s.KeepsLaws ((s.tested result).openedOnFeeder n) := by
  have htested : s.KeepsLaws (s.tested result) := State.keeps_tested fun hdegraded => by
    obtain ⟨htruck, -⟩ := (State.degradedStands_iff _).1 hdegraded
    exact absurd (htruck.symm.trans hfeeder) (by decide)
  refine htested.trans (.ite_self fun _ => ?_)
  exact (State.keeps_raise _ _).trans (State.keeps_calmFeeder _)

theorem execOpenWireTestComplete_kept (t : Nat) (test : WireTest) (s : State) : s.KeptBy (execOpenWireTestComplete t test s) := by
  refine .event (t := t) ?_
  generalize s.takenAt t = a
  split
  case h_1 =>
    refine .ite_self fun _ => ?_
    dsimp only
    split
    case isTrue =>
      split
      case isTrue => exact a.keeps_openedOnTruck _ _
      case isFalse hfeeder => exact State.keeps_openedOnFeeder _ _ (Bool.eq_false_iff.2 hfeeder)
    case isFalse hopened =>
      refine State.keeps_tested (State.degradedStands_of_tested fun hfinds => ?_)
      simpa [hfinds] using hopened
  all_goals exact .refl a

theorem execSweepComplete_kept (t : Nat) (samples : Vector Code 18) (s : State) : s.KeptBy (execSweepComplete t samples s) := by
  refine .event (t := t) ?_
  generalize s.takenAt t = a
  split
  case h_1 =>
    refine .ite_self fun _ => .trans ?_ (State.keeps_passSet _)
    exact .of_view rfl
  all_goals exact .refl a

theorem execChannel0SampleHeld_kept (t : Nat) (sample : Code) (s : State) : s.KeptBy (execChannel0SampleHeld t sample s) := by
  refine .event (t := t) ?_
  generalize s.takenAt t = a
  split
  · exact .ite_self fun _ => .of_view rfl
  · exact .refl a

theorem execMeasurementPairHanded_kept (t : Nat) (sample : Code) (s : State) :
    s.KeptBy (execMeasurementPairHanded t sample s) := by
  refine .event (t := t) ?_
  generalize s.takenAt t = a
  split
  · refine .ite_self fun _ => .trans ?_ (State.keeps_changeArcs _ _)
    exact .of_view (by simp [State.lawView, Sweeper.handPair_eq])
  · exact .refl a

theorem Sweeper.restart_openFlags (w : Sweeper) (clock : Nat) : (w.restart clock).openFlags = w.openFlags := by
  unfold Sweeper.restart
  dsimp only
  split
  case h_4 => split <;> rfl
  all_goals rfl

theorem ArcMonitor.start_storm (a : ArcMonitor) (clock : Nat) (now : ArcTime) : (a.start clock now).storm = a.storm := by
  unfold ArcMonitor.start
  split <;> rfl

theorem execArcStart_kept (t : Nat) (s : State) : s.KeptBy (execArcStart t s) :=
  .event (t := t) (.ite_self fun _ =>
    .of_view (by simp only [State.lawView, Sweeper.restart_openFlags, ArcMonitor.start_storm]))

/-! ### The limit output -/

/-- R69, R70: the period value takes the limit. -/
theorem State.keeps_beginLimitPeriod (s : State) : s.KeepsLaws s.beginLimitPeriod := s.keeps_lim ⟨le_rfl, fun _ => le_rfl⟩

theorem State.keeps_strobe (s : State) : s.KeepsLaws s.strobe := s.keeps_lim ⟨le_rfl, id⟩

theorem execPeriodBoundary_kept (t : Nat) (s : State) : s.KeptBy (execPeriodBoundary t s) :=
  .event (t := t) (.ite_self fun _ => (State.keeps_beginLimitPeriod _).trans (.ite_self fun _ => State.keeps_strobe _))

theorem execLimitPulseEnd_kept (t : Nat) (s : State) : s.KeptBy (execLimitPulseEnd t s) :=
  .event (t := t) (.ite_self fun _ => State.keeps_lim _ ⟨le_rfl, id⟩)

theorem execLstbPulseEnd_kept (t : Nat) (s : State) : s.KeptBy (execLstbPulseEnd t s) :=
  .event (t := t) (.ite_self fun _ => State.keeps_lim _ ⟨le_rfl, id⟩)

/-! ### The feeder's timers -/

theorem execOverTimerExpiry_kept (t : Nat) (s : State) : s.KeptBy (execOverTimerExpiry t s) := by
  refine .event (t := t) (.ite_self fun _ => .trans (.trans ?_ (State.keeps_repeatShed _)) (State.keeps_raise _ _))
  exact .of_view rfl

theorem execRepeatTimerExpiry_kept (t : Nat) (s : State) : s.KeptBy (execRepeatTimerExpiry t s) := by
  refine .event (t := t) (.ite_self fun _ => ?_)
  split
  · exact State.keeps_repeatShed _
  · exact .of_view rfl

theorem execReleaseTimerExpiry_kept (t : Nat) (s : State) : s.KeptBy (execReleaseTimerExpiry t s) :=
  .event (t := t) (.ite_self fun _ => (State.keeps_callShed _ _).trans (State.keeps_calmFeeder _))

/-! ### Start-up and resets -/

/-- R181: a part in power-on reset has limit 0 and is OFFLINE. -/
theorem State.keeps_powerOn (s : State) (stage : Startup) : s.KeepsLaws (s.powerOn stage) :=
  .of_limit_zero ⟨Nat.zero_le _, fun _ => Nat.zero_le _⟩ (fun _ => rfl) fun _ hne => absurd rfl hne

/-- R75, R182: after a warm reset too. -/
theorem State.keeps_warmReset (s : State) : s.KeepsLaws s.warmReset := by
  have hlim : s.warmReset.lim.limit = 0 ∧ s.warmReset.lim.periodValue = 0 := by
    simp [State.warmReset, State.warmResetLimit]
  refine .of_limit_zero ⟨by simp [hlim], by simp [hlim]⟩ (fun _ => hlim.1) fun _ hne => absurd ?_ hne
  simp [State.warmReset, State.warmResetShare, ShareEngine.powerOn]

theorem execWarmResetTaken_kept (t : Nat) (s : State) : s.KeptBy (execWarmResetTaken t s) := by
  refine .event (t := t) (.ite_self fun _ => .trans ?_ (State.keeps_warmReset _))
  exact .of_view rfl

theorem execConfigurationLoadEnd_kept (block : Option (Vector Byte 64)) {s : State}
    (hstart : s.isReady = false → s.share.phase = .offline) : s.KeptBy (execConfigurationLoadEnd block s) := by
  refine .next (.ite_self fun h => ?_)
  have hloading : s.startup = .loading := by simpa using h
  have hoffline : s.share.phase = .offline := hstart (by simp [State.isReady, hloading])
  exact .of_offline (fun _ => hoffline) (by simp) (.of_eq (by simp))

@[simp] theorem State.firstDecisions_share_lim (s : State) :
    s.firstDecisions.share = s.share ∧ s.firstDecisions.lim = s.lim := by
  unfold State.firstDecisions
  split <;> simp

theorem execSelfcheckEnd_kept (t : Nat) (tests : Vector WireTest 8) (samples : Vector Code 18) {s : State}
    (hstart : s.isReady = false → s.share.phase = .offline) : s.KeptBy (execSelfcheckEnd t tests samples s) := by
  refine .event (t := t) (.ite_self fun h => ?_)
  simp only [Bool.and_eq_true, beq_iff_eq, State.takenAt_startup] at h
  have hoffline : s.share.phase = .offline := hstart (by simp [State.isReady, h.1])
  exact .of_offline (fun _ => hoffline) (by simp) (.of_eq (by simp))

/-! ### Every command but the tick -/

/-- Before ready the phase is OFFLINE (R46), so that the end of the load and of the self-check find the limit 0. -/
theorem State.keptBy_exec {s : State} (hstart : s.isReady = false → s.share.phase = .offline) (c : Instr)
    (hc : ∀ t, c ≠ .cycleTick t) : s.KeptBy (exec c s) := by
  cases c with
  | cycleTick t => exact absurd rfl (hc t)
  | readStatus t => exact .port t s fun a => a.keeps_answer ..
  | readEvents t => exact .port t s fun a => .of_view rfl
  | clearEvents t mask => exact .port t s fun a => .of_view rfl
  | writeEventMask t mask => exact .port t s fun a => .of_view rfl
  | writeDemand t demand cls => exact execWriteDemand_kept t demand cls s
  | writeCap t cap => exact execWriteCap_kept t cap s
  | sectionAhead t => exact .port t s fun a => a.keeps_answerOk.trans (State.keeps_requestCrossing _)
  | transmitOn t => exact execTransmitOn_kept t s
  | transmitOff t => exact execTransmitOff_kept t s
  | raise t emlower => exact execRaise_kept t emlower s
  | lower t => exact execLower_kept t s
  | clearFault t => exact execClearFault_kept t s
  | readPeer t index => exact execReadPeer_kept t index s
  | readBudget t => exact .port t s fun a => a.keeps_answer ..
  | readHolds t => exact .port t s fun a => a.keeps_answer ..
  | readArc t index => exact execReadArc_kept t index s
  | readMeasurements t => exact .port t s fun a => a.keeps_answer ..
  | readConfig t => exact .port t s fun a => a.keeps_answer ..
  | readIdentity t => exact .port t s fun a => a.keeps_answer ..
  | warmReset t => exact .port t s fun a => .of_view rfl
  | unknownCommand t code => exact execUnknownCommand_kept t code s
  | transactionAbandoned t bytes => exact .event (t := t) (.of_view rfl)
  | warmResetTaken t => exact execWarmResetTaken_kept t s
  | warmNFall t => exact .event (t := t) (.ite_self fun _ => State.keeps_warmReset _)
  | powerOnReset => exact .next (s.keeps_powerOn _)
  | resetNRelease => exact .next (.ite_self fun _ => s.keeps_powerOn _)
  | configurationLoadEnd block => exact execConfigurationLoadEnd_kept block hstart
  | selfcheckEnd t tests samples => exact execSelfcheckEnd_kept t tests samples hstart
  | listenTimerExpiry t => exact execListenTimerExpiry_kept t s
  | overflowTimerExpiry t => exact execOverflowTimerExpiry_kept t s
  | crossingTimerExpiry t => exact execCrossingTimerExpiry_kept t s
  | collapseTimerExpiry t => exact execCollapseTimerExpiry_kept t s
  | holdExpiry t => exact execHoldExpiry_kept t s
  | entryBecomesStale t address => exact .event (t := t) (.of_view rfl)
  | entryRemovedByAge t address => exact .event (t := t) (.of_view rfl)
  | demandReceived t source payload line => exact .event (State.keeps_hear _ _)
  | supplyReceived t source payload line => exact .event (State.keeps_hear _ _)
  | shedReceived t source payload line => exact .event (State.keeps_hear _ _)
  | departReceived t source line => exact .event (State.keeps_hear _ _)
  | receiveGapTimeout heard => exact execReceiveGapTimeout_kept heard s
  | framingError heard => exact .event (State.keeps_hear _ _)
  | headerTestFailed t characters => exact .event (State.keeps_hear _ _)
  | frameDue t carrier => exact execFrameDue_kept t carrier s
  | transmissionEnd t => exact execTransmissionEnd_kept t s
  | sweepComplete t samples => exact execSweepComplete_kept t samples s
  | openWireTestComplete t test => exact execOpenWireTestComplete_kept t test s
  | measurementPairHanded t sample => exact execMeasurementPairHanded_kept t sample s
  | channel0SampleHeld t sample => exact execChannel0SampleHeld_kept t sample s
  | arcStart t => exact execArcStart_kept t s
  | arcEnd t => exact .event (t := t) (.ite_self fun _ => State.keeps_changeArcs _ _)
  | arcSaturation t => exact .event (t := t) (State.keeps_changeArcs _ _)
  | sectAheadFall t => exact .event (t := t) (.ite_self fun _ => State.keeps_requestCrossing _)
  | emlowerNFall t => exact execEmlowerNFall_kept t s
  | contactQualificationExpiry t => exact execContactQualificationExpiry_kept t s
  | raiseTimerExpiry t => exact execRaiseTimerExpiry_kept t s
  | lossTimerExpiry t => exact execLossTimerExpiry_kept t s
  | imbalanceTimerExpiry t => exact execImbalanceTimerExpiry_kept t s
  | unloadTimerExpiry t => exact execUnloadTimerExpiry_kept t s
  | lowerTimerExpiry t => exact execLowerTimerExpiry_kept t s
  | overTimerExpiry t => exact execOverTimerExpiry_kept t s
  | repeatTimerExpiry t => exact execRepeatTimerExpiry_kept t s
  | releaseTimerExpiry t => exact execReleaseTimerExpiry_kept t s
  | periodBoundary t => exact execPeriodBoundary_kept t s
  | limitPulseEnd t => exact execLimitPulseEnd_kept t s
  | lstbPulseEnd t => exact execLstbPulseEnd_kept t s
  | actuatorPeriodBoundary t => exact .event (t := t) (.ite_self fun _ => .of_view rfl)
  | actuatorPulseEnd t => exact .event (t := t) (.ite_self fun _ => .of_view rfl)

end Sys2Proof.Machine

/-! ## The laws of the limit: the tick, and every step -/

namespace Sys2Proof.Machine

/-! ### The computing tick (R1, R19, R21, R64) -/

@[simp] theorem State.computingTick_lim (s : State) : s.computingTick.lim = (s.applyTarget s.target).lim := by
  simp [State.computingTick]

@[simp] theorem State.computingTick_share (s : State) : s.computingTick.share = { s.share with
    budget := s.budgetRecord (s.applyTarget s.target).lim.limit } := by
  simp [State.computingTick]

@[simp] theorem State.computingTick_txEnable (s : State) : s.computingTick.link.txEnable = s.link.txEnable := by
  simp [State.computingTick]

/-- R64: the limit a computation leaves is at most the effective demand it finds. -/
theorem State.computingTick_limit_le_dSelf {s : State} (htable : tableForm s.config.address s.peers)
    (hconfig : configForm s.config) : s.computingTick.lim.limit ≤ s.dSelf := by
  rw [State.computingTick_lim, State.applyTarget_limit]
  exact (rampedLimit_le_target _ _ _).trans (State.target_le_dSelf htable hconfig)

theorem State.computingTick_floorStands {s : State} (h : s.computingTick.floorStands) : s.floorStands := by
  simpa [State.floorStands, State.degradedStands, State.isTruck, State.overflowStands, State.openChannel] using h

/-- The effective demand is within every cap of R63, and it is what the new record holds. -/
theorem State.computingTick_limitLaws {s : State} (htable : tableForm s.config.address s.peers) (hconfig : configForm s.config)
    (laws : s.LimitLaws) (hdraw : s.mayDraw) : s.computingTick.LimitLaws := by
  have hdemand : s.computingTick.lim.limit ≤ s.dSelf := State.computingTick_limit_le_dSelf htable hconfig
  have hlocal : s.computingTick.lim.limit ≤ s.localCap := hdemand.trans s.dSelf_le_localCap
  have hdraw' : s.computingTick.mayDraw :=
    State.mayDraw_of_same (by simp) (by simp) (by simp) (fun htx => by simpa using htx) hdraw
  exact {
    rating := by simpa using hlocal.trans s.localCap_le_rating
    manual := by simpa using hlocal.trans s.localCap_le_manualCap
    demand := by simpa [State.budgetRecord] using hdemand
    zero := fun hnot => absurd hdraw' hnot
    floor := fun hfloor => by
      have hforce := State.floorInForce_of_floorStands (State.computingTick_floorStands hfloor)
      simpa using hdemand.trans (State.dSelf_le_floor hforce)
    pulse := by simp
    onWire := by simpa [State.isTruck] using laws.onWire }

/-! ### The tick of a truck (R45) -/

/-- In SILENT the tick's target is 0. -/
theorem State.keeps_applyTarget_zero (s : State) : s.KeepsLaws (s.applyTarget 0) := by
  have hkeeps : s.KeepsLaws { s with lim := (s.applyTarget 0).lim } :=
    s.keeps_lim ⟨by simp [rampedLimit], fun _ => by simp⟩
  rwa [← State.applyTarget_frame] at hkeeps

theorem State.mayDraw_of_mode {s : State} (laws : s.LimitLaws) (hnone : s.mode ≠ .none) (hsilent : s.mode ≠ .silent) :
    s.mayDraw := by
  obtain ⟨-, hactive⟩ := not_not.1 (mt s.mode_eq_none_iff.2 hnone)
  exact ⟨(laws.onWire (by simp [hactive])).1, hactive, hsilent⟩

/-- R63, R64: a truck's tick keeps the laws, and raises the limit by at most the ramp-up step. -/
theorem State.shareTick_laws {s : State} (htable : tableForm s.config.address s.peers) (hconfig : configForm s.config)
    (laws : s.LimitLaws) : s.shareTick.LimitLaws ∧ s.shareTick.lim.limit ≤ s.lim.limit + s.config.rampStep := by
  have hcompute : s.mode ≠ .none → s.mode ≠ .silent →
      s.computingTick.LimitLaws ∧ s.computingTick.lim.limit ≤ s.lim.limit + s.config.rampStep := fun hnone hsilent =>
    ⟨State.computingTick_limitLaws htable hconfig laws (State.mayDraw_of_mode laws hnone hsilent), by
      rw [State.computingTick_lim, State.applyTarget_limit]
      exact rampedLimit_le_add _ _ _⟩
  unfold State.shareTick
  split
  case h_1 => exact ⟨laws, Nat.le_add_right _ _⟩
  case h_2 =>
    obtain ⟨hlaws, hle⟩ := s.keeps_applyTarget_zero.keeps laws
    exact ⟨hlaws, Nat.le_add_right_of_le hle⟩
  case h_3 hmode => exact hcompute (by simp [hmode]) (by simp [hmode])
  case h_4 hmode => exact hcompute (by simp [hmode]) (by simp [hmode])
  case h_5 hmode => exact hcompute (by simp [hmode]) (by simp [hmode])

theorem State.keeps_rearmCycle (s : State) : s.KeepsLaws s.rearmCycle := .of_view rfl

theorem State.keeps_feederTick (s : State) : s.KeepsLaws s.feederTick := s.keeps_offer _ _

theorem exec_cycleTick_config {s u : State} {t : Nat} (hu : exec (.cycleTick t) s = .next u) : u.config = s.config := by
  cases hu
  dsimp only
  split
  · split <;> simp
  · simp

/-- R160: on a truck the storm count follows the tick's work, and only lowers the limit. -/
theorem exec_cycleTick_laws {s u : State} {t : Nat} (htable : tableForm s.config.address s.peers) (hconfig : configForm s.config)
    (laws : s.LimitLaws) (hu : exec (.cycleTick t) s = .next u) :
    u.LimitLaws ∧ u.lim.limit ≤ s.lim.limit + s.config.rampStep := by
  have hrearm : s.KeepsLaws (s.takenAt t).rearmCycle := (s.keeps_takenAt t).trans (State.keeps_rearmCycle _)
  cases hu
  dsimp only
  split
  case isFalse =>
    obtain ⟨hlaws, hle⟩ := (s.keeps_takenAt t).keeps laws
    exact ⟨hlaws, Nat.le_add_right_of_le hle⟩
  case isTrue =>
    split
    case isTrue =>
      obtain ⟨hlaws, hle⟩ := State.shareTick_laws (s := (s.takenAt t).rearmCycle) htable hconfig (hrearm.keeps laws).1
      obtain ⟨hcounted, hcountedLe⟩ := (State.keeps_takeStormCount _).keeps hlaws
      exact ⟨hcounted, hcountedLe.trans hle⟩
    case isFalse =>
      obtain ⟨hlaws, hle⟩ := (hrearm.trans (State.keeps_feederTick _)).keeps laws
      exact ⟨hlaws, Nat.le_add_right_of_le hle⟩

/-! ### Every step (R63) -/

theorem State.keeps_idle (s : State) : s.KeepsLaws s.idle := .ite_self fun _ => .of_view rfl

theorem Configuration.rating_le_of_form {c : Configuration} (h : configForm c) : c.rating ≤ 4095 := by
  obtain ⟨-, -, ⟨-, ⟨-, hrating⟩, -⟩, -⟩ := h
  exact hrating

/-- A command that lowers the limit or leaves it leaves it within the rating that stood before. -/
theorem State.KeepsLaws.limitLaws_and_le {s u : State} (h : s.KeepsLaws u) (hconfig : configForm s.config) (laws : s.LimitLaws) :
    u.LimitLaws ∧ u.lim.limit ≤ 4095 ∧ u.lim.limit ≤ s.lim.limit := by
  obtain ⟨hlaws, hle⟩ := h.keeps laws
  exact ⟨hlaws, hle.trans (laws.rating.trans (Configuration.rating_le_of_form hconfig)), hle⟩

theorem State.keeps_pending (s : State) (rest : List Instr) : s.KeepsLaws { s with pending := rest } := .of_view rfl

/-- Settles O4, by what is taken: time passing and every command but the tick keep the laws without raising the limit; the tick
keeps them by the division, which gives the station no more than its effective demand. -/
theorem limitLawsAreKeptByEveryStep : Obligations.LimitLawsAreKeptByEveryStep := by
  intro s u hform laws hstep
  cases hpending : s.pending with
  | nil =>
    rw [step, hpending] at hstep
    cases hstep
    obtain ⟨hlaws, hbound, hle⟩ := s.keeps_idle.limitLaws_and_le hform.config laws
    exact ⟨hlaws, hbound, .inl hle⟩
  | cons c rest =>
    rw [step, hpending] at hstep
    have hrest : State.LimitLaws { s with pending := rest } := ((s.keeps_pending rest).keeps laws).1
    by_cases htick : ∃ t, c = .cycleTick t
    · obtain ⟨t, rfl⟩ := htick
      obtain ⟨hlaws, hle⟩ := exec_cycleTick_laws (s := { s with pending := rest }) hform.table hform.config hrest hstep
      have hrating : u.config.rating ≤ 4095 :=
        exec_cycleTick_config hstep ▸ Configuration.rating_le_of_form hform.config
      exact ⟨hlaws, hlaws.rating.trans hrating, .inr ⟨⟨t, rfl⟩, hle⟩⟩
    · obtain ⟨-, hstart⟩ := hform.startup
      have hexec := State.keptBy_exec (s := { s with pending := rest }) (fun hnot => (hstart hnot).1) c
        (fun t heq => htick ⟨t, heq⟩) u hstep
      obtain ⟨hlaws, hbound, hle⟩ := hexec.limitLaws_and_le hform.config hrest
      exact ⟨hlaws, hbound, .inl hle⟩

end Sys2Proof.Machine

/-! ## The hold list: a SHED placed, refreshed, replacing or discarded, a release, HOLD_EXPIRY -/

namespace Sys2Proof.Machine

/-! ### The order of the list (R77) -/

/-- R77, over the expiries less now: the earlier expiry first, and of equal expiries the lower origin. -/
def Hold.Sooner (now : Reading) (x y : Hold) : Prop :=
  (x.expiry - now).toNat < (y.expiry - now).toNat ∨
    (x.expiry - now).toNat = (y.expiry - now).toNat ∧ x.origin.toNat < y.origin.toNat

/-- R78 and R88: what remains of a hold whose expiry lies at most 5000 ms ahead. -/
theorem Hold.remaining_of_le {h : Hold} {now : Reading} (hle : (h.expiry - now).toNat ≤ 5000) :
    h.remaining now = (h.expiry - now).toNat :=
  if_pos hle

theorem Hold.before_iff_sooner {x y : Hold} {now : Reading} (hx : (x.expiry - now).toNat ≤ 5000)
    (hy : (y.expiry - now).toNat ≤ 5000) : x.before y now = true ↔ Hold.Sooner now x y := by
  simp [Hold.before, Hold.Sooner, Hold.remaining_of_le hx, Hold.remaining_of_le hy]

theorem Hold.Sooner.trans {now : Reading} {x y z : Hold} (hxy : Hold.Sooner now x y) (hyz : Hold.Sooner now y z) :
    Hold.Sooner now x z := by
  unfold Hold.Sooner at *
  omega

/-- Of two holds from different origins one stands before the other. -/
theorem Hold.sooner_of_not_sooner {now : Reading} {x y : Hold} (hxy : ¬ Hold.Sooner now x y) (hne : y.origin ≠ x.origin) :
    Hold.Sooner now y x := by
  have horigin : y.origin.toNat ≠ x.origin.toNat := fun heq => hne (BitVec.eq_of_toNat_eq heq)
  unfold Hold.Sooner at *
  omega

/-- R77: an origin's hold inserted among those of other origins keeps the order. -/
theorem pairwise_insertHold {h : Hold} {now : Reading} {l : List Hold} (hh : (h.expiry - now).toNat ≤ 5000)
    (hl : ∀ q ∈ l, (q.expiry - now).toNat ≤ 5000) (hnew : ∀ q ∈ l, q.origin ≠ h.origin)
    (horder : l.Pairwise (Hold.Sooner now)) : (insertHold h now l).Pairwise (Hold.Sooner now) := by
  induction l with
  | nil => exact List.pairwise_singleton _ _
  | cons q rest ih =>
    obtain ⟨hfirst, hrest⟩ := List.pairwise_cons.1 horder
    have hbefore := Hold.before_iff_sooner hh (hl q List.mem_cons_self)
    unfold insertHold
    split
    case isTrue hplace =>
      have hhq : Hold.Sooner now h q := hbefore.1 hplace
      exact List.pairwise_cons.2 ⟨List.forall_mem_cons.2 ⟨hhq, fun r hr => hhq.trans (hfirst r hr)⟩, horder⟩
    case isFalse hplace =>
      have hqh : Hold.Sooner now q h :=
        Hold.sooner_of_not_sooner (fun hhq => hplace (hbefore.2 hhq)) (hnew q List.mem_cons_self)
      refine List.pairwise_cons.2 ⟨fun r hr => ?_, ih (List.forall_mem_of_forall_mem_cons hl)
        (List.forall_mem_of_forall_mem_cons hnew) hrest⟩
      rcases (mem_insertHold h r now rest).1 hr with rfl | hmem
      · exact hqh
      · exact hfirst r hmem

theorem insertHold_perm (h : Hold) (now : Reading) (l : List Hold) : (insertHold h now l).Perm (h :: l) := by
  induction l with
  | nil => exact .refl _
  | cons q rest ih =>
    unfold insertHold
    split
    · exact .refl _
    · exact (ih.cons q).trans (.swap h q rest)

/-! ### The form of the list (R77) -/

theorem holdForm_of_sublist {l kept : List Hold} (hsub : kept.Sublist l) (hform : holdForm l) : holdForm kept := by
  obtain ⟨hlength, hdistinct, hvalid⟩ := hform
  exact ⟨hsub.length_le.trans hlength, hdistinct.sublist hsub, fun q hq => hvalid q (hsub.subset hq)⟩

/-- A new origin's hold inserted where there is room keeps the form of R77. -/
theorem holdForm_insertHold {h : Hold} {now : Reading} {l : List Hold} (hform : holdForm l) (hvalid : validAddress h.origin)
    (hnew : ∀ q ∈ l, q.origin ≠ h.origin) (hroom : l.length < 4) : holdForm (insertHold h now l) := by
  obtain ⟨-, hdistinct, hentries⟩ := hform
  refine ⟨by rw [length_insertHold]; exact hroom, ?_, fun q hq => ?_⟩
  · rw [(insertHold_perm h now l).pairwise_iff fun hne => hne.symm]
    exact List.pairwise_cons.2 ⟨fun q hq => (hnew q hq).symm, hdistinct⟩
  · rcases (mem_insertHold h q now l).1 hq with rfl | hmem
    · exact hvalid
    · exact hentries q hmem

/-! ### The list after a SHED (R79) -/

/-- The hold a SHED of `units` × 10 ms calls for. -/
def shedHold (now : Reading) (o : Address) (units : Nat) (reason : Byte) : Hold :=
  ⟨o, now + BitVec.ofNat 48 (10 * units), reason⟩

theorem shedHold_left (now : Reading) (o : Address) {units : Nat} (reason : Byte) (hunits : units ≤ 500) :
    ((shedHold now o units reason).expiry - now).toNat = 10 * units := by
  have hexpiry : (shedHold now o units reason).expiry - now = BitVec.ofNat 48 (10 * units) := by
    rw [shedHold, BitVec.add_comm, BitVec.add_sub_cancel]
  rw [hexpiry, BitVec.toNat_ofNat]
  omega

section
variable {now : Reading} {o : Address} {units : Nat} {reason : Byte} {l : List Hold}

/-- R79, first case: the origin's entry is refreshed. -/
theorem takenHolds_of_present (h : ∃ q ∈ l, q.origin = o) :
    takenHolds now o units reason l = insertHold (shedHold now o units reason) now (removeHold o l) :=
  if_pos ((hasHold_iff l o).2 h)

theorem not_hasHold_of_absent (hnew : ∀ q ∈ l, q.origin ≠ o) : ¬ hasHold l o = true := by
  rw [hasHold_iff]
  rintro ⟨q, hq, horigin⟩
  exact hnew q hq horigin

/-- R79, second case: there is room. -/
theorem takenHolds_of_room (hnew : ∀ q ∈ l, q.origin ≠ o) (hroom : l.length < 4) :
    takenHolds now o units reason l = insertHold (shedHold now o units reason) now l :=
  (if_neg (not_hasHold_of_absent hnew)).trans (if_pos hroom)

/-- R79, the cases of a full list: its earliest entry decides. -/
theorem takenHolds_of_full {first : Hold} (hnew : ∀ q ∈ first :: l, q.origin ≠ o) (hfull : l.length = 3)
    (hfirst : (first.expiry - now).toNat ≤ 5000) :
    takenHolds now o units reason (first :: l) =
      if (first.expiry - now).toNat < 10 * units then insertHold (shedHold now o units reason) now l else first :: l := by
  have hnoroom : ¬ (first :: l).length < holdCapacity := by simp [hfull]
  rw [← Hold.remaining_of_le hfirst]
  exact (if_neg (not_hasHold_of_absent hnew)).trans (if_neg hnoroom)

/-- R79, third case: the SHED outlasts the earliest entry and takes its room. -/
theorem takenHolds_of_outlasts {first : Hold} (hnew : ∀ q ∈ first :: l, q.origin ≠ o) (hfull : l.length = 3)
    (hfirst : (first.expiry - now).toNat ≤ 5000) (hlonger : (first.expiry - now).toNat < 10 * units) :
    takenHolds now o units reason (first :: l) = insertHold (shedHold now o units reason) now l := by
  rw [takenHolds_of_full hnew hfull hfirst, if_pos hlonger]

/-- R79, last case: the SHED outlasts no entry and is discarded. -/
theorem takenHolds_of_outlasted {first : Hold} (hnew : ∀ q ∈ first :: l, q.origin ≠ o) (hfull : l.length = 3)
    (hfirst : (first.expiry - now).toNat ≤ 5000) (hshorter : 10 * units ≤ (first.expiry - now).toNat) :
    takenHolds now o units reason (first :: l) = first :: l := by
  rw [takenHolds_of_full hnew hfull hfirst, if_neg (Nat.not_lt.2 hshorter)]

theorem length_removeHold_lt (h : ∃ q ∈ l, q.origin = o) : (removeHold o l).length < l.length := by
  simpa [removeHold, List.length_filter_lt_length_iff_exists] using h

/-- R79: a SHED either is inserted among entries of the list, of other origins and leaving room, or leaves the list as it is. -/
theorem takenHolds_inserts_or_discards (hlength : l.length ≤ 4) (hnear : ∀ q ∈ l, (q.expiry - now).toNat ≤ 5000) :
    (∃ kept : List Hold, kept.Sublist l ∧ kept.length < 4 ∧ (∀ q ∈ kept, q.origin ≠ o) ∧
      takenHolds now o units reason l = insertHold (shedHold now o units reason) now kept) ∨
    takenHolds now o units reason l = l := by
  by_cases hpresent : ∃ q ∈ l, q.origin = o
  · exact .inl ⟨removeHold o l, List.filter_sublist, (length_removeHold_lt hpresent).trans_le hlength,
      fun q hq => ((mem_removeHold o l q).1 hq).2, takenHolds_of_present hpresent⟩
  · have hnew : ∀ q ∈ l, q.origin ≠ o := fun q hq horigin => hpresent ⟨q, hq, horigin⟩
    cases l with
    | nil => exact .inl ⟨[], .refl _, by decide, hnew, takenHolds_of_room hnew (by decide)⟩
    | cons first rest =>
      rw [List.length_cons] at hlength
      by_cases hroom : (first :: rest).length < 4
      · exact .inl ⟨_, .refl _, hroom, hnew, takenHolds_of_room hnew hroom⟩
      · have hfull : rest.length = 3 := by rw [List.length_cons] at hroom; omega
        have hfirst := hnear first List.mem_cons_self
        by_cases hlonger : (first.expiry - now).toNat < 10 * units
        · exact .inl ⟨rest, List.sublist_cons_self _ _, by omega, List.forall_mem_of_forall_mem_cons hnew,
            takenHolds_of_outlasts hnew hfull hfirst hlonger⟩
        · exact .inr (takenHolds_of_outlasted hnew hfull hfirst (Nat.not_lt.1 hlonger))

/-- R77 to R79: the list after a SHED has the form, no expiry more than 5000 ms ahead, and the order it had. -/
theorem takenHolds_keeps (hform : holdForm l) (hvalid : validAddress o) (hunits : units ≤ 500)
    (hnear : ∀ q ∈ l, (q.expiry - now).toNat ≤ 5000) :
    holdForm (takenHolds now o units reason l) ∧
      (∀ q ∈ takenHolds now o units reason l, (q.expiry - now).toNat ≤ 5000) ∧
      (l.Pairwise (Hold.Sooner now) → (takenHolds now o units reason l).Pairwise (Hold.Sooner now)) := by
  have hlength : l.length ≤ 4 := hform.1
  rcases takenHolds_inserts_or_discards (o := o) (units := units) (reason := reason) hlength hnear with
    ⟨kept, hsub, hroom, hnew, heq⟩ | heq
  · have hhold : ((shedHold now o units reason).expiry - now).toNat ≤ 5000 := by
      rw [shedHold_left now o reason hunits]
      omega
    have hkept : ∀ q ∈ kept, (q.expiry - now).toNat ≤ 5000 := fun q hq => hnear q (hsub.subset hq)
    rw [heq]
    refine ⟨holdForm_insertHold (holdForm_of_sublist hsub hform) hvalid hnew hroom, fun q hq => ?_,
      fun horder => pairwise_insertHold hhold hkept hnew (horder.sublist hsub)⟩
    rcases (mem_insertHold _ q now kept).1 hq with rfl | hmem
    · exact hhold
    · exact hkept q hmem
  · rw [heq]
    exact ⟨hform, hnear, id⟩

end

/-! ### The onset of a hold (R82) -/

@[simp] theorem State.withHolds_holds (s : State) (l : List Hold) : (s.withHolds l).holds = l := by
  simp only [State.withHolds]
  split <;> simp

theorem State.withHolds_of_onset {s : State} {l : List Hold} (hempty : s.holds = []) (hl : l ≠ []) :
    s.withHolds l = (State.raise { s with holds := l } .holdStart).floorOnset := by
  simp [State.withHolds, hempty, hl]

theorem State.withHolds_of_standing {s : State} {l : List Hold} (hstands : s.holds ≠ []) :
    s.withHolds l = { s with holds := l } := by
  simp [State.withHolds, hstands]

/-! ### An accepted SHED (R78 to R80) -/

theorem State.takeShed_of_feeder {s : State} (o : Address) (units : Nat) (reason : Byte) (h : s.isTruck = false) :
    s.takeShed o units reason = s := by
  simp [State.takeShed, h]

theorem State.takeShed_release {s : State} (o : Address) (reason : Byte) (h : s.isTruck = true) :
    s.takeShed o 0 reason = { s with holds := removeHold o s.holds } := by
  simp [State.takeShed, h]

theorem State.takeShed_hold {s : State} (o : Address) {units : Nat} (reason : Byte) (h : s.isTruck = true) (hunits : units ≠ 0) :
    s.takeShed o units reason = s.withHolds (takenHolds s.now o units reason s.holds) := by
  simp [State.takeShed, h, hunits]

theorem exec_shedReceived_accepted {s : State} {t : Nat} {o : Address} {p : ShedPayload} {starts : Vector Nat 10}
    (hready : s.startup = .ready) (hheard : s.hearsWhole t starts.toList = true) (hvalid : validAddress o)
    (hother : o ≠ s.config.address) :
    exec (.shedReceived t o p ⟨Frame.crc ⟨o, .shed p⟩, starts⟩) s =
      .next ((s.frameHeard t starts.toList).takeShed o (min 500 p.holdTime.toNat) p.reason) :=
  congrArg Host.Outcome.next (State.hear_accepted (f := ⟨o, .shed p⟩) hready
    (by simp [payloadBytes, shedBytes, halfBytes]) hheard hvalid hother)

/-- R79 and R82: a hold taken writes the list, and at its onset raises HOLD_START and lays the floor's cap. -/
theorem exec_shedReceived_hold {s : State} {t : Nat} {o : Address} {p : ShedPayload} {starts : Vector Nat 10}
    (hready : s.startup = .ready) (hheard : s.hearsWhole t starts.toList = true) (htruck : s.isTruck = true)
    (hvalid : validAddress o) (hother : o ≠ s.config.address) (htime : p.holdTime ≠ 0) :
    ∃ u, exec (.shedReceived t o p ⟨Frame.crc ⟨o, .shed p⟩, starts⟩) s = .next u ∧
      u.holds = takenHolds (s.takenAt t).now o (min 500 p.holdTime.toNat) p.reason s.holds ∧
      (s.holds = [] → u.port = s.port.raise .holdStart ∧ u.lim = ((s.takenAt t).immediateCap s.config.floor).lim) ∧
      (s.holds ≠ [] → u.port = s.port ∧ u.lim = s.lim) ∧
      u = { s with clock := (s.takenAt t).clock, holds := u.holds, lim := u.lim, port := u.port,
                   link := s.link.heard starts.toList } := by
  have hunits : min 500 p.holdTime.toNat ≠ 0 := by
    have hpositive : p.holdTime.toNat ≠ 0 := fun hzero => htime (BitVec.eq_of_toNat_eq hzero)
    omega
  have hclock := State.takenAt_clock_of_ready t s hready
  have htaken : (s.frameHeard t starts.toList).takeShed o (min 500 p.holdTime.toNat) p.reason =
      (s.frameHeard t starts.toList).withHolds
        (takenHolds (s.takenAt t).now o (min 500 p.holdTime.toNat) p.reason s.holds) := by
    rw [State.takenAt_of_ready t s hready]
    exact State.takeShed_hold o p.reason htruck hunits
  rw [exec_shedReceived_accepted hready hheard hvalid hother, htaken]
  refine ⟨_, rfl, State.withHolds_holds _ _, fun hempty => ?_, fun hstands => ?_, ?_⟩
  · rw [State.withHolds_of_onset (s := s.frameHeard t starts.toList) hempty (takenHolds_ne_nil _ _ _ _ _)]
    exact ⟨by simp [State.frameHeard], State.immediateCap_lim_congr _ _ _ rfl hclock.symm rfl⟩
  · rw [State.withHolds_of_standing (s := s.frameHeard t starts.toList) hstands]
    exact ⟨rfl, rfl⟩
  · apply State.eq_of_fields <;> simp [State.frameHeard, hclock]

/-- Settles O29: the list by the cases of R79, the onset by R82. -/
theorem shedPlacesItsHold : Obligations.ShedPlacesItsHold := by
  intro t o p starts s hready hheard htruck hvalid hother htime hform a left sooner units hold hnear
  obtain ⟨u, hexec, hholds, honset, hstanding, hframe⟩ :=
    exec_shedReceived_hold hready hheard htruck hvalid hother htime
  obtain ⟨hformed, hahead, horder⟩ :=
    takenHolds_keeps (reason := p.reason) hform hvalid (min_le_left 500 p.holdTime.toNat) hnear
  rw [← hholds] at hformed hahead horder
  refine ⟨u, hexec, hformed, hahead, horder, fun hpresent q => ?_, fun hnew hroom q => ?_,
    fun first rest hnew hsplit hfull => ⟨fun hlonger q => ?_, fun hshorter => ?_⟩, honset, hstanding, hframe⟩
  · rw [hholds, takenHolds_of_present hpresent, mem_insertHold, mem_removeHold]
    rfl
  · rw [hholds, takenHolds_of_room hnew hroom, mem_insertHold]
    rfl
  · rw [hsplit] at hnew hnear hholds
    rw [hholds, takenHolds_of_outlasts hnew hfull (hnear first List.mem_cons_self) hlonger, mem_insertHold]
    rfl
  · rw [hsplit] at hnew hnear hholds
    rw [hholds, hsplit, takenHolds_of_outlasted hnew hfull (hnear first List.mem_cons_self) hshorter]

/-! ### HOLD_EXPIRY (R81) -/

theorem exec_holdExpiry {s : State} {t : Nat} {h : Hold} {rest : List Hold} (hready : s.startup = .ready)
    (hholds : s.holds = h :: rest) :
    exec (.holdExpiry t) s = .next (if h.remaining (s.takenAt t).now = 0 then { s with clock := max s.clock t, holds := rest }
      else { s with clock := max s.clock t }) := by
  change execHoldExpiry t s = _
  simp [execHoldExpiry, hholds, State.takenAt_of_ready t s hready]

/-- Settles O30: the release filters the origin out, a feeder's list takes nothing, and the expiry takes the first entry away. -/
theorem holdsEndByReleaseOrExpiry : Obligations.HoldsEndByReleaseOrExpiry := by
  refine ⟨fun t o p starts s hready hheard hvalid hother => ⟨fun htruck hzero => ?_, fun hfeeder => ?_⟩,
    fun t h rest s hready hholds => ⟨fun hnow => ?_, fun hlater hnear => ?_⟩⟩
  · rw [exec_shedReceived_accepted hready hheard hvalid hother, hzero]
    exact congrArg Host.Outcome.next (State.takeShed_release o p.reason htruck)
  · rw [exec_shedReceived_accepted hready hheard hvalid hother]
    exact congrArg Host.Outcome.next (State.takeShed_of_feeder o _ p.reason hfeeder)
  · have hend : h.remaining (s.takenAt t).now = 0 := by simp [Hold.remaining, hnow]
    rw [exec_holdExpiry hready hholds, if_pos hend]
  · have hremains : h.remaining (s.takenAt t).now ≠ 0 := by
      rw [Hold.remaining_of_le hnear]
      omega
    rw [exec_holdExpiry hready hholds, if_neg hremains]

end Sys2Proof.Machine

/-! ## Crossing a section gap: the request taken or ignored, the timeout, the sets that carry the crossing forward -/

namespace Sys2Proof.Machine

/-! ### A frame on the line is sent whole (R114, R115) -/

theorem CarrierLink.emptyPeriodic_of_sending {l : CarrierLink} {f : Frame} {since : Nat} (clock : Nat)
    (h : l.transmitter = .sending f since) : (l.emptyPeriodic clock).transmitter = .sending f since := by
  simp [CarrierLink.emptyPeriodic, h]

theorem CarrierLink.afterFill_of_sending {l : CarrierLink} {f : Frame} {since : Nat} (k : Slot) (clock : Nat)
    (h : l.transmitter = .sending f since) : l.afterFill k clock = l := by
  simp [CarrierLink.afterFill, h]

theorem CarrierLink.place_of_sending {l : CarrierLink} {f : Frame} {since : Nat} (k : Slot) (g : Frame) (clock : Nat)
    (h : l.transmitter = .sending f since) : (l.place k g clock).transmitter = .sending f since := by
  unfold CarrierLink.place
  split
  · cases k <;> exact h
  · rw [CarrierLink.afterFill_of_sending (f := f) (since := since)] <;> cases k <;> exact h

/-! ### A crossing request (R90 to R92) -/

theorem State.requestCrossing_of_ignored {s : State} (h : s.isTruck = false ∨ s.share.phase ≠ .active) :
    s.requestCrossing = s := by
  rcases h with h | h <;> simp [State.requestCrossing, h]

/-- The DEPART is offered in every mode: in SILENT the link does not take it (R54, R110, R116). -/
theorem State.requestCrossing_of_active {s : State} (htruck : s.isTruck = true) (hactive : s.share.phase = .active) :
    s.requestCrossing = { (s.immediateCap 0).emptyPeriodic.offer .depart .depart with share := { s.share with
      phase := .crossing
      crossSub := .drain
      crossTimer := some (s.clock + 1000 * s.config.crossingTimeout)
      collapseTimer := none } } := by
  have htakes : (s.immediateCap 0).emptyPeriodic.linkTakes = s.linkTakes := by simp [State.linkTakes]
  have hmode := s.mode_bne_silent htruck hactive
  unfold State.requestCrossing
  rw [if_pos (by simp [htruck, hactive])]
  cases h : s.linkTakes
  · rw [State.offer_of_refused _ _ _ (htakes.trans h)]
    simp [hmode.trans h, State.afterMs]
  · simp [hmode.trans h, State.afterMs]

theorem State.requestCrossing_link_of_silent {s : State} (htruck : s.isTruck = true) (hactive : s.share.phase = .active)
    (hsilent : s.mode = .silent) : s.requestCrossing.link = s.link.emptyPeriodic s.clock := by
  have hrefused : s.linkTakes = false := by rw [← s.mode_bne_silent htruck hactive, hsilent]; rfl
  rw [State.requestCrossing_of_active htruck hactive, State.offer_of_refused _ _ _ (by simpa [State.linkTakes] using hrefused)]
  simp

theorem State.requestCrossing_link_of_not_silent {s : State} (htruck : s.isTruck = true) (hactive : s.share.phase = .active)
    (hnotSilent : s.mode ≠ .silent) :
    s.requestCrossing.link = (s.link.emptyPeriodic s.clock).place .depart ⟨s.config.address, .depart⟩ s.clock := by
  have htakes : s.linkTakes = true := by rw [← s.mode_bne_silent htruck hactive]; simpa using hnotSilent
  rw [State.requestCrossing_of_active htruck hactive]
  dsimp only
  rw [State.offer_of_taken _ _ _ (by simpa [State.linkTakes] using htakes)]
  simp

/-- R91: a crossing request taken leaves the periodic slot empty, the SHED slot and a frame on the line as they were. -/
theorem State.requestCrossing_queue {s : State} (htruck : s.isTruck = true) (hactive : s.share.phase = .active) :
    s.requestCrossing.link.periodic = none ∧ s.requestCrossing.link.shed = s.link.shed ∧
      ∀ f since, s.link.transmitter = .sending f since → s.requestCrossing.link.transmitter = .sending f since := by
  by_cases hsilent : s.mode = .silent
  · rw [State.requestCrossing_link_of_silent htruck hactive hsilent]
    exact ⟨by simp, by simp, fun f since h => CarrierLink.emptyPeriodic_of_sending s.clock h⟩
  · rw [State.requestCrossing_link_of_not_silent htruck hactive hsilent]
    obtain ⟨-, hperiodic, hshed⟩ :=
      CarrierLink.place_depart (s.link.emptyPeriodic s.clock) ⟨s.config.address, .depart⟩ s.clock
    exact ⟨by simp [hperiodic], by simp [hshed], fun f since h =>
      CarrierLink.place_of_sending _ _ _ (CarrierLink.emptyPeriodic_of_sending s.clock h)⟩

/-- SECT_AHEAD_FALL and SECTION AHEAD are one request on a ready part; the command answers OK besides (R90, R92). -/
theorem exec_crossingRequest {s : State} {t : Nat} {i : Instr} (hready : s.startup = .ready)
    (hi : i = .sectAheadFall t ∨ i = .sectionAhead t) :
    ∃ p, exec i s = .next (State.requestCrossing { s with clock := max s.clock t, port := p }) ∧
      (i = .sectAheadFall t → p = s.port) ∧ (i = .sectionAhead t → p = { s.port with response := [0x00] }) := by
  have htaken := State.takenAt_of_ready t s hready
  rcases hi with rfl | rfl
  · refine ⟨s.port, ?_, fun _ => rfl, by simp⟩
    change execSectAheadFall t s = _
    simp [execSectAheadFall, State.isReady, hready, htaken]
  · refine ⟨_, ?_, by simp, fun _ => rfl⟩
    change execSectionAhead t s = _
    rw [execSectionAhead, onPort_of_ready t s _ hready, htaken]
    rfl

/-- Settles O33, by whether the request is taken in ACTIVE, and there by whether the mode is SILENT. -/
theorem crossingRequestActsInActiveAlone : Obligations.CrossingRequestActsInActiveAlone := by
  intro t i s hready hi
  obtain ⟨p, hexec, hfall, hcommand⟩ := exec_crossingRequest hready hi
  refine ⟨_, hexec, by simpa using hfall, by simpa using hcommand, fun htruck hactive => ?_, fun hignored => ?_, ?_⟩
  · generalize hv : ({ s with clock := max s.clock t, port := p } : State) = v
    have htruck' : v.isTruck = true := hv ▸ htruck
    have hactive' : v.share.phase = .active := hv ▸ hactive
    have hmode : v.mode = s.mode := hv ▸ rfl
    have hlim : v.requestCrossing.lim = ((s.takenAt t).immediateCap 0).lim := by
      rw [(State.requestCrossing_lim_panto (by simp [htruck', hactive'])).1, State.takenAt_of_ready t s hready]
      exact State.immediateCap_lim_congr _ _ _ (hv ▸ rfl) (hv ▸ rfl) (hv ▸ rfl)
    obtain ⟨hperiodic, hshed, hsending⟩ := State.requestCrossing_queue htruck' hactive'
    refine ⟨?_, hlim, hlim ▸ State.immediateCap_zero_limit _, hperiodic, hshed.trans (hv ▸ rfl),
      fun f since h => hsending f since (hv ▸ h), fun hnotSilent => ?_, fun hsilent => ?_⟩
    · rw [State.requestCrossing_of_active htruck' hactive', ← hv]
    · rw [State.requestCrossing_link_of_not_silent htruck' hactive' (hmode ▸ hnotSilent)]
      exact ⟨_, (CarrierLink.place_depart _ _ _).1, by rw [← hv], by simp [← hv]⟩
    · rw [State.requestCrossing_link_of_silent htruck' hactive' (hmode.trans hsilent)]
      simp [← hv]
  · rw [State.requestCrossing_of_ignored (s := { s with clock := max s.clock t, port := p }) hignored]
    exact ⟨rfl, rfl, rfl⟩
  · rw [State.requestCrossing_frame]

/-! ### The timeout (R97) -/

theorem exec_crossingTimerExpiry {s : State} {t d : Nat} (hready : s.startup = .ready)
    (hcrossing : s.share.phase = .crossing) (htimer : s.share.crossTimer = some d) :
    exec (.crossingTimerExpiry t) s = .next (if d ≤ max s.clock t then
      { s with
        clock := max s.clock t
        share := { s.share with
          phase := .listen
          crossSub := .none
          crossTimer := none
          listenTimer := some (max s.clock t + 1000 * s.config.listenTime) }
        port := s.port.raise .crossTimeout }
      else { s with clock := max s.clock t }) := by
  change execCrossingTimerExpiry t s = _
  rw [execCrossingTimerExpiry, State.takenAt_of_ready t s hready]
  by_cases hdue : d ≤ max s.clock t <;>
    simp [hcrossing, htimer, State.due_some, hdue, State.enterListen, State.raise, State.afterMs]

/-- Settles O34, by whether the crossing timer has run out. -/
theorem crossingTimesOutToListen : Obligations.CrossingTimesOutToListen := by
  intro t d s hready hcrossing htimer
  rw [exec_crossingTimerExpiry hready hcrossing htimer]
  exact ⟨fun hdue => by rw [if_pos hdue], fun hearly => by rw [if_neg (Nat.not_le.2 hearly)]⟩

/-! ### A set taken by a crossing (R93 to R96) -/

/-- The line is dead: channel 1 valid and below V_dead (R95). -/
def State.lineDead (s : State) : Prop := s.validChannel 1 = true ∧ s.code 1 < s.config.vDead

/-- The line is live: channel 1 valid and at or above V_min (R86, R96). -/
def State.lineLive (s : State) : Prop := s.validChannel 1 = true ∧ s.config.vMin ≤ s.code 1

/-- The truck draws nothing: its current is at or below the release current or, with channel 0 OPEN, the line is dead (R94). -/
def State.drained (s : State) : Prop :=
  (s.validChannel 0 = true ∧ s.code 0 ≤ s.config.releaseCurrent) ∨ (s.openChannel 0 = true ∧ s.lineDead)

theorem State.setInCrossing_of_drained {s : State} (hsub : s.share.crossSub = .drain) (h : s.drained) :
    s.setInCrossing = { s with share := { s.share with crossSub := .gap } } := by
  unfold State.drained State.lineDead at h
  simp [State.setInCrossing, hsub, h]

theorem State.setInCrossing_of_not_drained {s : State} (hsub : s.share.crossSub = .drain) (h : ¬ s.drained) :
    s.setInCrossing = s := by
  unfold State.drained State.lineDead at h
  simp only [State.setInCrossing, hsub]
  exact if_neg (by simpa using h)

theorem State.setInCrossing_of_lineDead {s : State} (hsub : s.share.crossSub = .gap) (h : s.lineDead) :
    s.setInCrossing = { s with share := { s.share with crossSub := .dead } } := by
  unfold State.lineDead at h
  simp [State.setInCrossing, hsub, h]

theorem State.setInCrossing_of_not_lineDead {s : State} (hsub : s.share.crossSub = .gap) (h : ¬ s.lineDead) :
    s.setInCrossing = s := by
  unfold State.lineDead at h
  simp only [State.setInCrossing, hsub]
  exact if_neg (by simpa using h)

theorem State.setInCrossing_of_lineLive {s : State} (hsub : s.share.crossSub = .dead) (h : s.lineLive) :
    s.setInCrossing = s.completeCrossing := by
  unfold State.lineLive at h
  simp [State.setInCrossing, hsub, h]

theorem State.setInCrossing_of_not_lineLive {s : State} (hsub : s.share.crossSub = .dead) (h : ¬ s.lineLive) :
    s.setInCrossing = s := by
  unfold State.lineLive at h
  simp only [State.setInCrossing, hsub]
  exact if_neg (by simpa using h)

theorem State.setInCrossing_of_none {s : State} (hsub : s.share.crossSub = .none) : s.setInCrossing = s := by
  simp [State.setInCrossing, hsub]

/-- R93: a set that does not complete the crossing writes the sub-state and nothing else. -/
theorem State.setInCrossing_of_not_complete {s : State} (h : ¬ (s.share.crossSub = .dead ∧ s.lineLive)) :
    s.setInCrossing = { s with share := { s.share with crossSub := s.setInCrossing.share.crossSub } } := by
  cases hsub : s.share.crossSub with
  | none => rw [State.setInCrossing_of_none hsub]
  | drain =>
    by_cases hd : s.drained
    · rw [State.setInCrossing_of_drained hsub hd]
    · rw [State.setInCrossing_of_not_drained hsub hd]
  | gap =>
    by_cases hd : s.lineDead
    · rw [State.setInCrossing_of_lineDead hsub hd]
    · rw [State.setInCrossing_of_not_lineDead hsub hd]
  | dead => rw [State.setInCrossing_of_not_lineLive hsub fun hl => h ⟨hsub, hl⟩]

/-- R96: what the completion of a crossing writes. -/
theorem State.completeCrossing_eq (s : State) : s.completeCrossing = { s with
    peers := []
    holds := []
    port := s.port.raise .crossDone
    share := { s.share with
      phase := .listen
      crossSub := .none
      crossTimer := none
      overflowTimer := none
      listenTimer := some (s.clock + 1000 * s.config.listenTime) } } := rfl

/-- A set neither starts nor ends an episode while a crossing goes on. -/
theorem State.setInCrossing_episode (s : State) : s.setInCrossing.share.episode = s.share.episode := by
  by_cases h : s.share.crossSub = .dead ∧ s.lineLive
  · rw [State.setInCrossing_of_lineLive h.1 h.2, State.completeCrossing_eq]
  · rw [State.setInCrossing_of_not_complete h]

/-! ### A set in CROSSING (R84, R86, R93, R122) -/

theorem State.setInEpisode_of_lineLive {s : State} (h : s.lineLive) :
    s.setInEpisode = { s with share := { s.share with episode := false } } := by
  unfold State.lineLive at h
  simp [State.setInEpisode, h]

theorem State.setInEpisode_of_not_lineLive {s : State} (h : ¬ s.lineLive) : s.setInEpisode = s := by
  unfold State.lineLive at h
  exact if_neg (by simpa using h)

/-- R84, R86: before a crossing takes a set, the set writes the collapse timer and the episode flag, which a live line clears. -/
theorem State.setInCollapse_setInEpisode_eq (s : State) :
    ∃ timer episode, s.setInCollapse.setInEpisode =
      { s with share := { s.share with collapseTimer := timer, episode := episode } } ∧ (s.lineLive → episode = false) := by
  obtain ⟨timer, htimer⟩ : ∃ timer, s.setInCollapse = { s with share := { s.share with collapseTimer := timer } } := by
    unfold State.setInCollapse
    split
    · split <;> exact ⟨_, rfl⟩
    · exact ⟨_, rfl⟩
  rw [htimer]
  by_cases hlive : s.lineLive
  · exact ⟨timer, false, State.setInEpisode_of_lineLive hlive, fun _ => rfl⟩
  · exact ⟨timer, s.share.episode, State.setInEpisode_of_not_lineLive hlive, fun h => absurd h hlive⟩

/-- R127 to R129: in CONTACT a set is the pantograph's alone. -/
theorem State.setInPantograph_frame_of_contact {s : State} (h : s.panto.state = .contact) :
    s.setInPantograph = { s with panto := s.setInPantograph.panto } := by
  have hset : s.setInPantograph = s.setInEpisodeOfHeads.regulate.watchLoss.watchImbalance := by
    simp [State.setInPantograph, h]
  rw [hset]
  apply State.eq_of_fields <;> simp

/-- A set published to a truck that is crossing, its pantograph in CONTACT. -/
theorem State.passSet_of_crossing {s : State} (htruck : s.isTruck = true) (hcrossing : s.share.phase = .crossing)
    (hcontact : s.panto.state = .contact) :
    ∃ timer episode panto, (s.lineLive → episode = false) ∧
      s.passSet = { State.setInCrossing { s with share := { s.share with collapseTimer := timer, episode := episode } } with
        panto := panto } := by
  obtain ⟨timer, episode, heq, hepisode⟩ := s.setInCollapse_setInEpisode_eq
  have hengine : s.setInShareEngine =
      State.setInCrossing { s with share := { s.share with collapseTimer := timer, episode := episode } } := by
    simp [State.setInShareEngine, heq, hcrossing]
  refine ⟨timer, episode, s.setInShareEngine.setInPantograph.panto, hepisode, ?_⟩
  rw [State.passSet, if_pos htruck, ← hengine]
  exact State.setInPantograph_frame_of_contact (by simpa using hcontact)

/-- SWEEP_COMPLETE at the end of a sweep: the set is published, the next conversion begun and the set passed on (R140 to R142). -/
theorem exec_sweepComplete {s : State} {t since : Nat} (samples : Vector Code 18) (hready : s.startup = .ready)
    (hsweep : s.sweeper.conversion = .sweep since) (hend : since + 360 ≤ max s.clock t) :
    exec (.sweepComplete t samples) s = .next (State.passSet { s.takenAt t with
      sweeper := (s.sweeper.publish (s.sweeper.sweepSamples samples)).finishSweep (max s.clock t) }) := by
  change execSweepComplete t samples s = _
  simp [execSweepComplete, hsweep, State.isReady, hready, sweepTime, hend, State.takenAt_clock_of_ready t s hready]

/-- Settles O35: the set's own writes first, then the crossing's step by whether the set completes it. -/
theorem setsCarryTheCrossingForward : Obligations.SetsCarryTheCrossingForward := by
  intro t since samples s hready htruck hcrossing hcontact hsweep hend n dead live drained
  have hclock : n.clock = max s.clock t := State.takenAt_clock_of_ready t s hready
  obtain ⟨timer, episode, panto, hepisode, hset⟩ := State.passSet_of_crossing (s := n) htruck hcrossing hcontact
  generalize ha : ({ n with share := { n.share with collapseTimer := timer, episode := episode } } : State) = a at hset
  have hlive : a.lineLive ↔ live := by rw [← ha]; exact Iff.rfl
  have hdead : a.lineDead ↔ dead := by rw [← ha]; exact Iff.rfl
  have hdrained : a.drained ↔ drained := by rw [← ha]; exact Iff.rfl
  have hsub : a.share.crossSub = s.share.crossSub := ha ▸ rfl
  refine ⟨n.passSet, exec_sweepComplete samples hready hsweep hend, by simp, ?_, fun h => ?_, fun hs h => ?_, fun h => ?_, ?_⟩
  all_goals rw [hset]
  · simp [← ha, n]
  · exact (State.setInCrossing_episode a).trans (ha ▸ hepisode h)
  · rw [State.setInCrossing_of_lineLive (hsub.trans hs) (hlive.2 h), State.completeCrossing_eq]
    simp [← ha, hclock, hepisode h, n]
  · have hstep := State.setInCrossing_of_not_complete (s := a) (by rwa [hlive, hsub])
    refine ⟨?_, fun hs hd => ?_, fun hs hd => ?_, fun hs hd => ?_, fun hs hd => ?_, fun hs => ?_, ?_⟩
    · rw [hstep, ← ha]
      rfl
    · rw [State.setInCrossing_of_drained (hsub.trans hs) (hdrained.2 hd)]
    · rw [State.setInCrossing_of_not_drained (hsub.trans hs) (mt hdrained.1 hd)]
      exact hsub.trans hs
    · rw [State.setInCrossing_of_lineDead (hsub.trans hs) (hdead.2 hd)]
    · rw [State.setInCrossing_of_not_lineDead (hsub.trans hs) (mt hdead.1 hd)]
      exact hsub.trans hs
    · rw [State.setInCrossing_of_not_lineLive (hsub.trans hs) fun hl => h ⟨hs, hlive.1 hl⟩]
      exact hsub.trans hs
    · rw [hstep, ← ha]
      exact ⟨rfl, rfl, rfl⟩
  · apply State.eq_of_fields <;> simp [← ha, n, State.takenAt_clock_of_ready t s hready]

end Sys2Proof.Machine

/-! ## The carrier link: a frame's bytes and its CRC, the transmit commands -/

namespace Sys2Proof.Machine

/-! ### The CRC (R104) -/

/-- One byte after the others is the last to enter the register. -/
theorem crc16_append_byte (bytes : List Byte) (b : Byte) : crc16 (bytes ++ [b]) = crcByte (crc16 bytes) b :=
  List.foldl_concat ..

/-- The byte's bits enter from the most significant to the least. -/
theorem crcByte_eq (crc : BitVec 16) (b : Byte) : crcByte crc b =
    crcBit (crcBit (crcBit (crcBit (crcBit (crcBit (crcBit (crcBit crc (b.getLsbD 7)) (b.getLsbD 6)) (b.getLsbD 5))
      (b.getLsbD 4)) (b.getLsbD 3)) (b.getLsbD 2)) (b.getLsbD 1)) (b.getLsbD 0) := rfl

/-- The check value of the CRC: that of "123456789". -/
theorem crc16_check : crc16 [0x31, 0x32, 0x33, 0x34, 0x35, 0x36, 0x37, 0x38, 0x39] = 0x29B1 := by
  simp [crc16, crcByte, crcBit]

/-! ### The layouts (R103) -/

/-- The sender's bytes are those a receiver hears with the frame's own CRC. -/
theorem Frame.bytes_eq_received (f : Frame) : f.bytes = f.received f.crc := rfl

/-- No two frames share their bytes: a receiver reads the frame back from them. -/
theorem Frame.bytes_injective : Function.Injective Frame.bytes := by
  intro f g h
  have hpair : some (f, f.crc) = some (g, g.crc) := by
    rw [← frameOf_received, ← frameOf_received, ← f.bytes_eq_received, ← g.bytes_eq_received, h]
  exact congrArg Prod.fst (Option.some.inj hpair)

theorem Frame.covered_demand (a : Address) (p : DemandPayload) : Frame.covered ⟨a, .demand p⟩ =
    0x01 :: (halfBytes a ++ 13 :: demandBytes p) := rfl

theorem Frame.covered_supply (a : Address) (p : SupplyPayload) : Frame.covered ⟨a, .supply p⟩ =
    0x02 :: (halfBytes a ++ 10 :: supplyBytes p) := rfl

theorem Frame.covered_shed (a : Address) (p : ShedPayload) : Frame.covered ⟨a, .shed p⟩ =
    0x03 :: (halfBytes a ++ 3 :: shedBytes p) := rfl

theorem Frame.covered_depart (a : Address) : Frame.covered ⟨a, .depart⟩ = 0x04 :: (halfBytes a ++ [0]) := rfl

/-- The start byte, the covered bytes and their CRC make up the frame. -/
theorem Frame.bytes_of_covered {f : Frame} {covered : List Byte} (h : f.covered = covered) :
    f.bytes = (0xA5 :: covered) ++ halfBytes f.crc ∧ f.crc = crc16 ((0xA5#8 :: covered).drop 1) := by
  subst h
  exact ⟨rfl, rfl⟩

/-- Settles O53: injectivity through what a receiver reads back, the CRC byte by byte, and the layout kind by kind. -/
theorem frameBytesDetermineTheFrame : Obligations.FrameBytesDetermineTheFrame := by
  refine ⟨fun f g h => Frame.bytes_injective h, fun f => ⟨f.covered, rfl⟩, ⟨rfl, fun bytes b => ?_, crc16_check⟩,
    fun a => ⟨fun p => ?_, fun p => ?_, fun p => ?_, ?_⟩⟩
  · rw [crc16_append_byte, crcByte_eq]
    rfl
  · exact Frame.bytes_of_covered (Frame.covered_demand a p)
  · exact Frame.bytes_of_covered (Frame.covered_supply a p)
  · exact Frame.bytes_of_covered (Frame.covered_shed a p)
  · exact Frame.bytes_of_covered (Frame.covered_depart a)

/-! ### TRANSMIT ON (R117) -/

theorem exec_transmitOn {s : State} (t : Nat) (hready : s.startup = .ready) : exec (.transmitOn t) s = .next { s with
    clock := max s.clock t, link := { s.link with txEnable := true }, port := { s.port with response := [0x00] } } := by
  change execTransmitOn t s = _
  rw [execTransmitOn, onPort_of_ready t s _ hready, State.takenAt_of_ready t s hready]
  rfl

/-! ### TRANSMIT OFF (R55, R110, R116) -/

/-- A DEPART offered as the periodic slot is emptied fills its own slot where the link takes it, and the other slots are the same
either way. -/
theorem State.offer_depart_emptyPeriodic_slots (s : State) :
    let l := (s.emptyPeriodic.offer .depart .depart).link
    l.periodic = none ∧ l.shed = s.link.shed ∧
      (s.linkTakes = true → l.depart =
        some { frame := ⟨s.config.address, .depart⟩, attempts := (s.link.depart.map (·.attempts)).getD 0 }) ∧
      (s.linkTakes = false → l.depart = s.link.depart) := by
  have htakes : s.emptyPeriodic.linkTakes = s.linkTakes := by simp [State.linkTakes]
  cases h : s.linkTakes with
  | false => simp [State.offer_of_refused _ _ _ (htakes.trans h)]
  | true => simp [State.offer_of_taken _ _ _ (htakes.trans h), CarrierLink.place_depart]

theorem State.enterSilent_lim (s : State) : s.enterSilent.lim = (s.immediateCap 0).lim := rfl

/-- R55, R84: SILENT stops the collapse timer. -/
@[simp] theorem State.enterSilent_share (s : State) : s.enterSilent.share = { s.share with collapseTimer := none } := by
  simp [State.enterSilent]

/-- With transmit already off the command is answered and nothing more. -/
theorem exec_transmitOff_of_off {s : State} (t : Nat) (hready : s.startup = .ready) (hoff : s.link.txEnable = false) :
    exec (.transmitOff t) s = .next { s with clock := max s.clock t, port := { s.port with response := [0x00] } } := by
  change execTransmitOff t s = _
  rw [execTransmitOff, onPort_of_ready t s _ hready, State.takenAt_of_ready t s hready]
  simp [hoff, State.answerOk, State.answer, Status.byte]

section
variable {s : State} (t : Nat) (hready : s.startup = .ready) (hon : s.link.txEnable = true)
include hready hon

/-- Taken by a truck in ACTIVE: the DEPART is offered before the flag is cleared, and SILENT begins. -/
theorem exec_transmitOff_of_active (htruck : s.isTruck = true) (hactive : s.share.phase = .active) :
    let a := (s.takenAt t).answerOk
    let d := a.emptyPeriodic.offer .depart .depart
    exec (.transmitOff t) s = .next (State.enterSilent { d with link := { d.link with txEnable := false } }) := by
  change execTransmitOff t s = _
  rw [execTransmitOff, onPort_of_ready t s _ hready]
  simp [hon, hactive, State.isTruck_congr (s := s) (u := (s.takenAt t).answerOk) rfl, htruck]

/-- Taken elsewhere: the periodic slot is emptied and the flag cleared. -/
theorem exec_transmitOff_of_not_active (h : s.isTruck = false ∨ s.share.phase ≠ .active) :
    exec (.transmitOff t) s = .next { (s.takenAt t).answerOk with
      link := { s.link.emptyPeriodic (max s.clock t) with txEnable := false } } := by
  change execTransmitOff t s = _
  have hidle : ((s.takenAt t).answerOk.isTruck && s.share.phase == .active) = false := by
    rw [State.isTruck_congr (s := s) (u := (s.takenAt t).answerOk) rfl]
    rcases h with h | h <;> simp [h]
  rw [execTransmitOff, onPort_of_ready t s _ hready]
  simp [hon, hidle, State.emptyPeriodic, State.takenAt_clock_of_ready t s hready]

end

/-- Settles O51, by whether the flag is set, and there by whether a truck is in ACTIVE. -/
theorem transmitCommandsSilenceAndRelease : Obligations.TransmitCommandsSilenceAndRelease := by
  intro t s hready
  refine ⟨exec_transmitOn t hready, exec_transmitOff_of_off t hready, fun hon => ?_⟩
  have hclock := State.takenAt_clock_of_ready t s hready
  by_cases h : s.isTruck = true ∧ s.share.phase = .active
  · obtain ⟨htruck, hactive⟩ := h
    obtain ⟨hperiodic, hshed, htaken, hrefused⟩ := (s.takenAt t).answerOk.offer_depart_emptyPeriodic_slots
    refine ⟨_, exec_transmitOff_of_active t hready hon htruck hactive, by simp, by simpa using hperiodic, by simpa using hshed,
      by simp, fun _ _ => ⟨?_, State.immediateCap_zero_limit _, ?_, by simp, fun haddress => ?_, fun haddress => ?_⟩,
      fun hidle => ?_, ?_⟩
    · exact (State.enterSilent_lim _).trans (State.immediateCap_lim_congr _ _ _ (by simp) (by simp) (by simp))
    · exact (State.mode_eq_silent_iff _).2 ⟨(State.isTruck_congr (by simp)).trans htruck, by simp [hactive],
        by simp [State.muted]⟩
    · exact ⟨_, by simpa using htaken (by simpa [State.linkTakes, hon] using haddress), rfl, rfl⟩
    · simpa using hrefused (by simp [State.linkTakes, haddress])
    · simp [htruck, hactive] at hidle
    · apply State.eq_of_fields <;> simp [hclock]
  · rw [not_and_or, Bool.not_eq_true] at h
    refine ⟨_, exec_transmitOff_of_not_active t hready hon h, rfl, by simp, by simp, rfl, fun htruck hactive => ?_,
      fun _ => by simp, ?_⟩
    · simp [htruck, hactive] at h
    · apply State.eq_of_fields <;> simp [hclock]

end Sys2Proof.Machine

/-! ## The feeder's shed: its call, its timers, the sets it counts -/

namespace Sys2Proof.Machine

/-! ### The SHED the feeder calls (R110, R116, R167) -/

/-- The SHED of `units` from the own address. -/
def State.ownShed (s : State) (units : Nat) : Frame :=
  ⟨s.config.address, .shed { reason := 1, holdTime := BitVec.ofNat 16 units }⟩

/-- The link once the feeder has called the SHED of `units`; see `State.callShed_eq`. -/
def State.shedLink (s : State) (units : Nat) : CarrierLink :=
  if s.linkTakes then s.link.place .shed (s.ownShed units) s.clock else s.link

/-- The port once the feeder has called a SHED; see `State.callShed_eq`. -/
def State.shedPort (s : State) : TruckPort := if s.linkTakes then s.port.raise .shedSent else s.port

theorem State.linkTakes_iff (s : State) : s.linkTakes = true ↔ s.link.txEnable = true ∧ s.config.address ≠ 0 := by
  simp [State.linkTakes]

theorem State.callShed_eq (s : State) (units : Nat) :
    s.callShed units = { s with link := s.shedLink units, port := s.shedPort } := by
  cases h : s.linkTakes <;> simp [State.callShed, State.offer, State.raiseIf, State.raise, State.shedLink, State.shedPort,
    State.ownShed, h]

/-- A SHED the link takes fills its slot, and SHED_SENT is raised. -/
theorem State.shed_of_taken {s : State} (units : Nat) (htakes : s.linkTakes = true) :
    s.shedPort = s.port.raise .shedSent ∧ (s.shedLink units).periodic = s.link.periodic ∧
      (s.shedLink units).depart = s.link.depart ∧ (s.shedLink units).shed =
        some { frame := s.ownShed units, attempts := (s.link.shed.map (·.attempts)).getD 0 } := by
  obtain ⟨hshed, hperiodic, hdepart⟩ := s.link.place_shed (s.ownShed units) s.clock
  have hlink : s.shedLink units = s.link.place .shed (s.ownShed units) s.clock := if_pos htakes
  rw [hlink]
  exact ⟨if_pos htakes, hperiodic, hdepart, hshed⟩

/-- A SHED the link discards leaves the slots and the flags as they are. -/
theorem State.shed_of_discarded {s : State} (units : Nat) (htakes : ¬ s.linkTakes = true) :
    s.shedPort = s.port ∧ s.shedLink units = s.link :=
  ⟨if_neg htakes, if_neg htakes⟩

/-- The hold time is counted in units of 10 ms, and the repeat timer runs for all of them. -/
theorem State.afterMs_shedUnits (s : State) :
    s.afterMs (10 * s.shedUnits) = some (s.clock + 10000 * (s.config.feederHold / 10)) := by
  rw [State.afterMs, State.shedUnits, ← Nat.mul_assoc]

theorem State.repeatShed_eq (s : State) : s.repeatShed = { s with
    link := s.shedLink s.shedUnits
    port := s.shedPort
    feeder := { s.feeder with
      repeatTimer := some (s.clock + 10000 * (s.config.feederHold / 10)), repeatLapsed := false } } := by
  rw [← State.afterMs_shedUnits, State.repeatShed, State.callShed_eq]
  rfl

/-! ### The over current (R166) -/

theorem State.overloadCounted_iff (s : State) :
    s.overloadCounted = true ↔ s.validChannel 0 = true ∧ s.validChannel 1 = true := by
  simp [State.overloadCounted]

theorem State.overCurrent_iff (s : State) : s.overCurrent = true ↔
    (s.validChannel 0 = true ∧ s.validChannel 1 = true) ∧ s.overThreshold < s.feederCurrent := by
  simp [State.overCurrent, State.overloadCounted]

/-- A current above the over threshold is above the release threshold. -/
theorem State.releaseThreshold_le_overThreshold (s : State) : s.releaseThreshold ≤ s.overThreshold :=
  (Nat.sub_le _ _).trans (Nat.le_add_right _ _)

/-! ### The timers (R167, R168) -/

section
variable {s : State} {t d : Nat} (hready : s.startup = .ready) (hdue : d ≤ max s.clock t)
include hready hdue

theorem exec_overTimerExpiry_of_due (hover : s.feeder.overload = .over) (htimer : s.feeder.overTimer = some d) :
    exec (.overTimerExpiry t) s = .next { s with
      clock := max s.clock t
      link := (s.takenAt t).shedLink s.shedUnits
      port := s.shedPort.raise .feederOverload
      feeder := { s.feeder with
        overload := .shedding, overTimer := none
        repeatTimer := some (max s.clock t + 10000 * (s.config.feederHold / 10)), repeatLapsed := false } } := by
  change execOverTimerExpiry t s = _
  rw [execOverTimerExpiry, State.takenAt_of_ready t s hready]
  simp only [hover, htimer, State.due_some, hdue, decide_true, beq_self_eq_true, Bool.and_self, if_true, State.repeatShed_eq]
  rfl

theorem exec_repeatTimerExpiry_of_due (hshedding : s.feeder.overload = .shedding) (htimer : s.feeder.repeatTimer = some d) :
    exec (.repeatTimerExpiry t) s = .next (if s.overCurrent then { s with
        clock := max s.clock t
        link := (s.takenAt t).shedLink s.shedUnits
        port := s.shedPort
        feeder := { s.feeder with
          repeatTimer := some (max s.clock t + 10000 * (s.config.feederHold / 10)), repeatLapsed := false } }
      else { s with clock := max s.clock t, feeder := { s.feeder with repeatTimer := none, repeatLapsed := true } }) := by
  change execRepeatTimerExpiry t s = _
  rw [execRepeatTimerExpiry, State.takenAt_of_ready t s hready]
  simp only [hshedding, htimer, State.due_some, hdue, decide_true, beq_self_eq_true, Bool.and_self, if_true, State.repeatShed_eq]
  rfl

theorem exec_releaseTimerExpiry_of_due (hshedding : s.feeder.overload = .shedding)
    (htimer : s.feeder.releaseTimer = some d) :
    exec (.releaseTimerExpiry t) s = .next { s with
      clock := max s.clock t
      link := (s.takenAt t).shedLink 0
      port := s.shedPort
      feeder := .powerOn } := by
  change execReleaseTimerExpiry t s = _
  rw [execReleaseTimerExpiry, State.takenAt_of_ready t s hready]
  simp only [hshedding, htimer, State.due_some, hdue, decide_true, beq_self_eq_true, Bool.and_self, if_true, State.callShed_eq]
  rfl

end

/-- A command that calls the shed has it queued or discarded, `also` being what else it raises. -/
theorem exists_next_of_shed {s : State} {t units : Nat} {i : Instr} {f : FeederLogic} (also : TruckPort → TruckPort)
    (h : exec i s = .next { s with
      clock := max s.clock t, link := (s.takenAt t).shedLink units, port := also s.shedPort, feeder := f }) :
    ∃ u, exec i s = .next u ∧
      (s.link.txEnable = true ∧ s.config.address ≠ 0 → u.port = also (s.port.raise .shedSent) ∧
        u.link.periodic = s.link.periodic ∧ u.link.depart = s.link.depart ∧
        ∃ q, u.link.shed = some q ∧ q.frame = s.ownShed units ∧ q.attempts = (s.link.shed.map (·.attempts)).getD 0) ∧
      (¬ (s.link.txEnable = true ∧ s.config.address ≠ 0) → u.port = also s.port ∧ u.link = s.link) ∧
      u = { s with clock := max s.clock t, feeder := f, link := u.link, port := u.port } := by
  rw [← s.linkTakes_iff]
  refine ⟨_, h, fun htakes => ?_, fun htakes => ?_, rfl⟩
  · obtain ⟨hport, hperiodic, hdepart, hshed⟩ := State.shed_of_taken (s := s.takenAt t) units htakes
    exact ⟨congrArg also hport, hperiodic, hdepart, _, hshed, rfl, rfl⟩
  · obtain ⟨hport, hlink⟩ := State.shed_of_discarded (s := s.takenAt t) units htakes
    exact ⟨congrArg also hport, hlink⟩

/-! ### A set taken by a feeder (R166, R167) -/

theorem State.setInRelease_of_low_stopped {s : State} (hlow : s.feederCurrent ≤ s.releaseThreshold)
    (htimer : s.feeder.releaseTimer = none) :
    s.setInRelease = { s with feeder := { s.feeder with releaseTimer := some (s.clock + 200000) } } := by
  simp [State.setInRelease, hlow, htimer, State.startIfStopped, State.afterMs]

theorem State.setInRelease_of_low_running {s : State} (hlow : s.feederCurrent ≤ s.releaseThreshold)
    (htimer : s.feeder.releaseTimer ≠ none) : s.setInRelease = s := by
  obtain ⟨d, hd⟩ := Option.ne_none_iff_exists'.1 htimer
  have hkept : s.startIfStopped s.feeder.releaseTimer 200 = s.feeder.releaseTimer := by rw [hd]; rfl
  rw [State.setInRelease, if_pos hlow, hkept]

theorem State.setInRelease_of_not_low {s : State} (hlow : ¬ s.feederCurrent ≤ s.releaseThreshold) :
    s.setInRelease = { s with feeder := { s.feeder with releaseTimer := none } } := by
  rw [State.setInRelease, if_neg hlow]

theorem State.setInFeeder_of_not_counted {s : State} (h : s.validChannel 0 = false ∨ s.validChannel 1 = false) :
    s.setInFeeder = s := by
  have hcounted : ¬ s.overloadCounted = true := by rw [s.overloadCounted_iff]; rcases h with h | h <;> simp [h]
  exact if_neg hcounted

section
variable {s : State} (h0 : s.validChannel 0 = true) (h1 : s.validChannel 1 = true)
include h0 h1

theorem State.overCurrent_of_counted : s.overCurrent = decide (s.overThreshold < s.feederCurrent) := by
  simp [State.overCurrent, State.overloadCounted, h0, h1]

theorem State.setInFeeder_of_normal (hnormal : s.feeder.overload = .normal) :
    s.setInFeeder = if s.overThreshold < s.feederCurrent then
      { s with feeder := { s.feeder with overload := .over, overTimer := some (s.clock + 200000) } } else s := by
  rw [State.setInFeeder, if_pos (s.overloadCounted_iff.2 ⟨h0, h1⟩)]
  simp [hnormal, State.overCurrent_of_counted h0 h1, State.afterMs]

theorem State.setInFeeder_of_over (hover : s.feeder.overload = .over) :
    s.setInFeeder = if s.overThreshold < s.feederCurrent then s
      else { s with feeder := { s.feeder with overload := .normal, overTimer := none } } := by
  rw [State.setInFeeder, if_pos (s.overloadCounted_iff.2 ⟨h0, h1⟩)]
  simp [hover, State.overCurrent_of_counted h0 h1]

theorem State.setInFeeder_of_shedding (hshedding : s.feeder.overload = .shedding) :
    s.setInFeeder = s.setInRepeat.setInRelease := by
  rw [State.setInFeeder, if_pos (s.overloadCounted_iff.2 ⟨h0, h1⟩)]
  simp [hshedding]

/-- In SHEDDING with no repeat to make up for, a set moves only the release timer. -/
theorem State.setInFeeder_of_shedding_only_release (hshedding : s.feeder.overload = .shedding)
    (h : ¬ (s.overThreshold < s.feederCurrent ∧ s.feeder.repeatLapsed = true)) : s.setInFeeder = s.setInRelease := by
  have hrepeat : s.setInRepeat = s := if_neg (by simpa [State.overCurrent_of_counted h0 h1, and_comm] using h)
  rw [State.setInFeeder_of_shedding h0 h1 hshedding, hrepeat]

/-- In SHEDDING a lapsed repeat is made up for above the over threshold. -/
theorem State.setInFeeder_of_shedding_lapsed (hshedding : s.feeder.overload = .shedding)
    (habove : s.overThreshold < s.feederCurrent) (hlapsed : s.feeder.repeatLapsed = true) :
    s.setInFeeder = { s with
      link := s.shedLink s.shedUnits
      port := s.shedPort
      feeder := { s.feeder with
        releaseTimer := none, repeatLapsed := false
        repeatTimer := some (s.clock + 10000 * (s.config.feederHold / 10)) } } := by
  have hrepeat : s.setInRepeat = s.repeatShed := if_pos (by simp [State.overCurrent_of_counted h0 h1, habove, hlapsed])
  have hhigh : ¬ s.feederCurrent ≤ s.releaseThreshold :=
    Nat.not_le.2 (s.releaseThreshold_le_overThreshold.trans_lt habove)
  rw [State.setInFeeder_of_shedding h0 h1 hshedding, hrepeat, State.repeatShed_eq]
  exact State.setInRelease_of_not_low hhigh

end

/-- Settles O52: each timer's command by its equation and what becomes of the SHED it calls, and a set by the overload state. -/
theorem feederCallsRepeatsAndReleasesItsShed : Obligations.FeederCallsRepeatsAndReleasesItsShed := by
  refine ⟨fun t d s hready hdue => ⟨fun hover htimer => ?_, fun hshedding htimer => ⟨fun habove => ?_, fun hbelow => ?_⟩,
    fun hshedding htimer => ?_⟩, fun s => ⟨State.setInFeeder_of_not_counted, fun h0 h1 => ⟨fun hnormal habove => ?_,
    fun hnormal hbelow => ?_, fun hover habove => ?_, fun hover hbelow => ?_, fun hshedding hlow htimer hbelow => ?_,
    fun hshedding hlow htimer hbelow => ?_, fun hshedding hlow hsteady => ?_, fun hshedding habove hlapsed => ?_⟩⟩⟩
  · exact exists_next_of_shed (·.raise .feederOverload) (exec_overTimerExpiry_of_due hready hdue hover htimer)
  · exact exists_next_of_shed id
      ((exec_repeatTimerExpiry_of_due hready hdue hshedding htimer).trans (by rw [if_pos (s.overCurrent_iff.2 habove)]; rfl))
  · rw [exec_repeatTimerExpiry_of_due hready hdue hshedding htimer, if_neg (mt s.overCurrent_iff.1 hbelow)]
  · exact exists_next_of_shed id (exec_releaseTimerExpiry_of_due hready hdue hshedding htimer)
  · exact (State.setInFeeder_of_normal h0 h1 hnormal).trans (if_pos habove)
  · exact (State.setInFeeder_of_normal h0 h1 hnormal).trans (if_neg hbelow)
  · exact (State.setInFeeder_of_over h0 h1 hover).trans (if_pos habove)
  · exact (State.setInFeeder_of_over h0 h1 hover).trans (if_neg hbelow)
  · exact (State.setInFeeder_of_shedding_only_release h0 h1 hshedding fun h => hbelow h.1).trans
      (State.setInRelease_of_low_stopped hlow htimer)
  · exact (State.setInFeeder_of_shedding_only_release h0 h1 hshedding fun h => hbelow h.1).trans
      (State.setInRelease_of_low_running hlow htimer)
  · exact (State.setInFeeder_of_shedding_only_release h0 h1 hshedding hsteady).trans (State.setInRelease_of_not_low hlow)
  · rw [State.setInFeeder_of_shedding_lapsed h0 h1 hshedding habove hlapsed, ← s.linkTakes_iff]
    refine ⟨fun htakes => ?_, State.shed_of_discarded _, rfl⟩
    obtain ⟨hport, hperiodic, hdepart, hshed⟩ := State.shed_of_taken s.shedUnits htakes
    exact ⟨hport, hperiodic, hdepart, _, hshed, rfl⟩

end Sys2Proof.Machine

/-! ## The Truck Port: the event flags and the demand -/

namespace Sys2Proof.Machine

/-! ### The flag sets bit by bit (R175, R177) -/

/-- The bits of the table of R175 are 0 to 19. -/
theorem Event.bit_lt (e : Event) : e.bit < 20 := by
  cases e <;> decide

/-- An event's mask holds its own bit and no other. -/
theorem Event.getLsbD_mask (e : Event) (n : Nat) : e.mask.getLsbD n = decide (n = e.bit) := by
  have hbit : e.bit < 20 := e.bit_lt
  simp only [Event.mask, BitVec.getLsbD_shiftLeft, BitVec.getLsbD_one]
  grind

/-- A raised event joins a set as the one bit of its own, whatever else stands there. -/
theorem Event.getLsbD_or_mask (f : FlagSet) (e : Event) (n : Nat) :
    (f ||| e.mask).getLsbD n = (f.getLsbD n || decide (n = e.bit)) := by
  rw [BitVec.getLsbD_or, e.getLsbD_mask]

/-- A clear takes out the flags that are masked and not fresh (R177). A bit past the 32nd is in none of the sets. -/
theorem getLsbD_clearedFlags (flags mask fresh : FlagSet) (n : Nat) :
    (flags &&& ~~~(mask &&& ~~~fresh)).getLsbD n = (flags.getLsbD n && !(mask.getLsbD n && !fresh.getLsbD n)) := by
  by_cases hn : n < 32
  · simp [hn]
  · simp [BitVec.getLsbD_of_ge _ n (Nat.not_lt.1 hn)]

/-! ### ALERT_N (R178) -/

/-- Two flag sets meet exactly where some bit stands in both. -/
theorem FlagSet.and_ne_zero_iff (f g : FlagSet) : f &&& g ≠ 0 ↔ ∃ n, f.getLsbD n = true ∧ g.getLsbD n = true := by
  constructor
  · intro hmeet
    by_contra hnone
    refine hmeet (BitVec.eq_of_getLsbD_eq fun n _ => ?_)
    simpa using fun hf hg => hnone ⟨n, hf, hg⟩
  · rintro ⟨n, hf, hg⟩ hzero
    have hbit : (f &&& g).getLsbD n = true := by rw [BitVec.getLsbD_and, hf, hg, Bool.and_self]
    simp [hzero] at hbit

theorem State.alertN_eq_false_iff (s : State) :
    s.alertN = false ↔ ∃ n, s.port.flags.getLsbD n = true ∧ s.port.mask.getLsbD n = true := by
  rw [← FlagSet.and_ne_zero_iff]
  simp [State.alertN, State.alerting]

/-! ### The commands on a ready part (R173, R176 to R178) -/

section
variable {s : State} (t : Nat) (hready : s.startup = .ready)
include hready

theorem exec_readEvents : exec (.readEvents t) s = .next { s with
    clock := max s.clock t
    port := { s.port with response := 0x00 :: (flagBytes s.port.flags ++ flagBytes s.port.fresh), fresh := 0 } } := by
  change execReadEvents t s = _
  rw [execReadEvents, onPort_of_ready t s _ hready, State.takenAt_of_ready t s hready]
  rfl

theorem exec_clearEvents (mask : FlagSet) : exec (.clearEvents t mask) s = .next { s with
    clock := max s.clock t
    port := { s.port with response := [0x00], flags := s.port.flags &&& ~~~(mask &&& ~~~s.port.fresh) } } := by
  change execClearEvents t mask s = _
  rw [execClearEvents, onPort_of_ready t s _ hready, State.takenAt_of_ready t s hready]
  rfl

theorem exec_writeEventMask (mask : FlagSet) : exec (.writeEventMask t mask) s = .next { s with
    clock := max s.clock t, port := { s.port with response := [0x00], mask := mask } } := by
  change execWriteEventMask t mask s = _
  rw [execWriteEventMask, onPort_of_ready t s _ hready, State.takenAt_of_ready t s hready]
  rfl

theorem exec_writeDemand_of_badClass (demand : Half) {cls : Byte} (hcls : 4 ≤ cls.toNat) :
    exec (.writeDemand t demand cls) s = .next { s with
      clock := max s.clock t, port := { s.port with response := [0x03] } } := by
  change execWriteDemand t demand cls s = _
  rw [execWriteDemand, onPort_of_ready t s _ hready, State.takenAt_of_ready t s hready, dif_neg (Nat.not_lt.2 hcls)]
  rfl

theorem exec_writeDemand_of_class (demand : Half) {cls : Byte} {c : Fin 4} (hcls : c.val = cls.toNat) :
    exec (.writeDemand t demand cls) s = .next { s with
      clock := max s.clock t
      port := { s.port with response := [0x00] }
      share := { s.share with requestedDemand := min 4095 demand.toNat, demandClass := c } } := by
  have hlt : cls.toNat < 4 := hcls ▸ c.isLt
  obtain rfl : c = ⟨cls.toNat, hlt⟩ := Fin.ext hcls
  change execWriteDemand t demand cls s = _
  rw [execWriteDemand, onPort_of_ready t s _ hready, State.takenAt_of_ready t s hready, dif_pos hlt]
  rfl

end

/-- Settles O57: the raise and the clear bit by bit, ALERT_N as the meeting of flags and mask, and each command by its equation. -/
theorem eventFlagsAreClearedOnlyOnceRead : Obligations.EventFlagsAreClearedOnlyOnceRead := by
  refine ⟨fun p e n => ⟨Event.getLsbD_or_mask p.flags e n, Event.getLsbD_or_mask p.fresh e n, e.bit_lt, rfl⟩,
    State.alertN_eq_false_iff, fun t s hready => ⟨exec_readEvents t hready, fun mask => ?_,
      exec_writeEventMask t hready, fun demand cls =>
        ⟨exec_writeDemand_of_badClass t hready demand, fun c => exec_writeDemand_of_class t hready demand⟩⟩⟩
  exact ⟨_, exec_clearEvents t hready mask, getLsbD_clearedFlags s.port.flags mask s.port.fresh, rfl⟩

end Sys2Proof.Machine

/-! ## The form every step keeps: block by block -/

namespace Sys2Proof.Machine

/-- The part is ready and of the truck role: what only a truck uses may be in use. -/
def State.Awake (s : State) : Prop := s.startup = .ready ∧ s.isTruck = true

/-- Before the end of the load, and on a feeder, everything that only a truck uses is at rest. -/
def State.Resting (s : State) : Prop := s.running = false ∨ s.isTruck = false

/-! ### What a block may hold in a state -/

/-- The Limit Generator at rest, as `State.AtRest` has it. -/
def LimitGenerator.AtRest (l : LimitGenerator) : Prop :=
  (l.limit = 0 ∧ l.lastTarget = 0 ∧ l.periodValue = 0 ∧ l.markedValue = 0) ∧
  l.applicationMark = false ∧ l.limitOut = false ∧ l.lstbOut = false

/-- What the form asks of the Share Engine. -/
structure State.AdmitsShare (s : State) (e : ShareEngine) : Prop where
  phase    : phaseForm e
  written  : e.requestedDemand ≤ 4095 ∧ e.manualCap ≤ 4095
  ownShed  : e.collapseTimer ≠ none → s.config.address ≠ 0
  resting  : s.Resting → (e.phase = .offline ∧ e.collapseTimer = none ∧ e.episode = false) ∧
    (e.overflowTimer = none ∧ e.budget = .empty)
  starting : s.isReady = false → e.phase = .offline ∧ e.cycleTimer = none

/-- What the form asks of the pantograph. -/
structure State.AdmitsPanto (s : State) (p : Pantograph) : Prop where
  timers   : timerForm p
  resting  : s.Resting → (p.state = .lowered ∧ p.history = [] ∧ p.imbalanceEpisode = false) ∧
    (p.dutyInForce = 0 ∧ p.actDirOut = false ∧ p.actPwmOut = false)
  starting : s.isReady = false → p.state = .lowered

/-- What the form asks of the Arc Monitor. -/
structure State.AdmitsArc (s : State) (a : ArcMonitor) : Prop where
  arcs     : arcForm a
  resting  : s.Resting → a.pending = [] ∧ a.log = [] ∧ a.storm = false
  starting : s.isReady = false → a.pending = []

/-- What the form asks of the Feeder Role logic. -/
structure State.AdmitsFeeder (s : State) (f : FeederLogic) : Prop where
  overload : overloadForm f
  truck    : s.isTruck = true → f = .powerOn
  starting : s.isReady = false → f.overload = .normal

namespace State.Formed

variable {s : State}

theorem atRest (h : s.Formed) (hr : s.Resting) : s.AtRest := hr.elim (fun hn => (h.startup.1 hn).2) h.roles.1

theorem isReady_of_awake (h : s.Awake) : s.isReady = true := by simp [State.isReady, h.1]

theorem running_of_awake (h : s.Awake) : s.running = true := by simp [State.running, h.1]

theorem not_resting_of_awake (h : s.Awake) : ¬ s.Resting := by
  simp [State.Resting, running_of_awake h, h.2]

theorem not_resting (hrun : s.running = true) (htruck : s.isTruck = true) : ¬ s.Resting := by
  simp [State.Resting, hrun, htruck]

/-- A state that is at rest neither before the end of the load nor for its role is a truck's; where `h` says what fails before ready, it is
awake. -/
theorem awake_of (hready : s.isReady = false → False) (hrest : s.AtRest → False) (h : s.Formed) : s.Awake := by
  have hr : s.startup = .ready := by
    by_contra hne
    exact hready (by simpa [State.isReady] using hne)
  refine ⟨hr, ?_⟩
  by_contra ht
  exact hrest (h.roles.1 (by simpa using ht))

/-- Off LOWERED there is only a ready truck's pantograph (R135, R136). -/
theorem awake_of_panto (h : s.Formed) (hne : s.panto.state ≠ .lowered) : s.Awake :=
  h.awake_of (fun hn => hne (h.startup.2 hn).2.2.1) (fun hr => hne hr.lowered.1)

/-- Off OFFLINE there is only a ready truck's phase (R44, R46). -/
theorem awake_of_phase (h : s.Formed) (hne : s.share.phase ≠ .offline) : s.Awake :=
  h.awake_of (fun hn => hne (h.startup.2 hn).1) (fun hr => hne hr.offline.1)

/-- Only a ready truck has an arc record pending (R154). -/
theorem awake_of_arc (h : s.Formed) (hne : s.arc.pending ≠ []) : s.Awake :=
  h.awake_of (fun hn => hne (h.startup.2 hn).2.2.2.1) (fun hr => hne hr.arcs.1)

theorem awake_of_collapse (h : s.Formed) (hne : s.share.collapseTimer ≠ none) : s.Awake :=
  h.awake_of_phase (by simp [h.phase.2.2.2 hne])

/-- Only a ready feeder's overload state leaves NORMAL (R166, R170). -/
theorem feeding_of_overload (h : s.Formed) (hne : s.feeder.overload ≠ .normal) : s.isReady = true ∧ s.isTruck = false := by
  refine ⟨?_, ?_⟩ <;> by_contra hc
  · exact hne (h.startup.2 (by simpa using hc)).2.2.2.2
  · exact hne (by rw [h.roles.2 (by simpa using hc)]; rfl)

/-! ### One block replaced -/

/-- The clock moves on and the queue is another. -/
theorem later (h : s.Formed) {c : Nat} {q : List Instr} (hc : s.clock ≤ c) : ({ s with clock := c, pending := q } : State).Formed :=
  { h with
    startup := ⟨fun hn => ⟨(h.startup.1 hn).1, { (h.startup.1 hn).2 with }⟩, h.startup.2⟩
    receiver := ⟨h.receiver.1.trans hc, h.receiver.2⟩
    roles := ⟨fun hn => { h.roles.1 hn with }, h.roles.2⟩ }

theorem withPending (h : s.Formed) (q : List Instr) : ({ s with pending := q } : State).Formed := h.later le_rfl

theorem takenAt (h : s.Formed) (t : Nat) : (s.takenAt t).Formed := by
  refine h.later (c := if s.running then max s.clock t else s.clock) ?_
  split <;> simp

theorem withPort (h : s.Formed) {p : TruckPort} (hp : flagForm p) : ({ s with port := p } : State).Formed :=
  { h with
    flags := hp
    startup := ⟨fun hn => ⟨(h.startup.1 hn).1, { (h.startup.1 hn).2 with }⟩, h.startup.2⟩
    roles := ⟨fun hn => { h.roles.1 hn with }, h.roles.2⟩ }

theorem withLink (h : s.Formed) {l : CarrierLink} (hl : linkForm l) (ha : assemblerForm l s.clock) :
    ({ s with link := l } : State).Formed :=
  { h with
    link := hl
    startup := ⟨fun hn => ⟨(h.startup.1 hn).1, { (h.startup.1 hn).2 with }⟩, h.startup.2⟩
    receiver := ha
    roles := ⟨fun hn => { h.roles.1 hn with }, h.roles.2⟩ }

theorem withSweeper (h : s.Formed) {w : Sweeper} (hw : w.abortCount ≤ 4 ∧ w.sweepCounter < 64) :
    ({ s with sweeper := w } : State).Formed :=
  { h with
    startup := ⟨fun hn => ⟨(h.startup.1 hn).1, { (h.startup.1 hn).2 with }⟩, h.startup.2⟩
    sweeps := hw
    roles := ⟨fun hn => { h.roles.1 hn with }, h.roles.2⟩ }

theorem withPeers (h : s.Formed) {l : List Peer} (hl : tableForm s.config.address l) (hr : s.running = false → l = []) :
    ({ s with peers := l } : State).Formed :=
  { h with
    table := hl
    startup := ⟨fun hn => ⟨hr hn, { (h.startup.1 hn).2 with }⟩, h.startup.2⟩
    roles := ⟨fun hn => { h.roles.1 hn with }, h.roles.2⟩ }

theorem withHoldList (h : s.Formed) {l : List Hold} (hl : holdForm l) (hr : s.Resting → l = []) :
    ({ s with holds := l } : State).Formed :=
  { h with
    holds := hl
    startup := ⟨fun hn => ⟨(h.startup.1 hn).1, { (h.startup.1 hn).2 with holds := hr (.inl hn) }⟩, h.startup.2⟩
    roles := ⟨fun hn => { h.roles.1 hn with holds := hr (.inr hn) }, h.roles.2⟩ }


theorem withLim (h : s.Formed) {m : LimitGenerator} (hm : s.Resting → m.AtRest) : ({ s with lim := m } : State).Formed :=
  { h with
    startup := ⟨fun hn => ⟨(h.startup.1 hn).1,
      { (h.startup.1 hn).2 with limit := (hm (.inl hn)).1, pins := (hm (.inl hn)).2 }⟩, h.startup.2⟩
    roles := ⟨fun hn => { h.roles.1 hn with limit := (hm (.inr hn)).1, pins := (hm (.inr hn)).2 }, h.roles.2⟩ }

theorem withShare (h : s.Formed) {e : ShareEngine} (he : s.AdmitsShare e) : ({ s with share := e } : State).Formed :=
  { h with
    phase := he.phase
    startup := ⟨fun hn => ⟨(h.startup.1 hn).1,
      { (h.startup.1 hn).2 with offline := (he.resting (.inl hn)).1, computed := (he.resting (.inl hn)).2 }⟩,
      fun hn => ⟨(he.starting hn).1, (he.starting hn).2, (h.startup.2 hn).2.2⟩⟩
    written := he.written
    ownShed := he.ownShed
    roles := ⟨fun hn => { h.roles.1 hn with offline := (he.resting (.inr hn)).1, computed := (he.resting (.inr hn)).2 },
      h.roles.2⟩ }

theorem withPanto (h : s.Formed) {p : Pantograph} (hp : s.AdmitsPanto p) : ({ s with panto := p } : State).Formed :=
  { h with
    timers := hp.timers
    startup := ⟨fun hn => ⟨(h.startup.1 hn).1,
      { (h.startup.1 hn).2 with lowered := (hp.resting (.inl hn)).1, drive := (hp.resting (.inl hn)).2 }⟩,
      fun hn => ⟨(h.startup.2 hn).1, (h.startup.2 hn).2.1, hp.starting hn, (h.startup.2 hn).2.2.2⟩⟩
    roles := ⟨fun hn => { h.roles.1 hn with lowered := (hp.resting (.inr hn)).1, drive := (hp.resting (.inr hn)).2 },
      h.roles.2⟩ }

theorem withArc (h : s.Formed) {a : ArcMonitor} (ha : s.AdmitsArc a) : ({ s with arc := a } : State).Formed :=
  { h with
    arcs := ha.arcs
    startup := ⟨fun hn => ⟨(h.startup.1 hn).1, { (h.startup.1 hn).2 with arcs := ha.resting (.inl hn) }⟩,
      fun hn => ⟨(h.startup.2 hn).1, (h.startup.2 hn).2.1, (h.startup.2 hn).2.2.1, ha.starting hn, (h.startup.2 hn).2.2.2.2⟩⟩
    roles := ⟨fun hn => { h.roles.1 hn with arcs := ha.resting (.inr hn) }, h.roles.2⟩ }

theorem withFeeder (h : s.Formed) {f : FeederLogic} (hf : s.AdmitsFeeder f) : ({ s with feeder := f } : State).Formed :=
  { h with
    overload := hf.overload
    startup := ⟨fun hn => ⟨(h.startup.1 hn).1, { (h.startup.1 hn).2 with }⟩,
      fun hn => ⟨(h.startup.2 hn).1, (h.startup.2 hn).2.1, (h.startup.2 hn).2.2.1, (h.startup.2 hn).2.2.2.1, hf.starting hn⟩⟩
    roles := ⟨fun hn => { h.roles.1 hn with }, hf.truck⟩ }

/-! ### What the blocks hold -/

theorem lim_atRest (h : s.Formed) (hr : s.Resting) : s.lim.AtRest := ⟨(h.atRest hr).limit, (h.atRest hr).pins⟩

theorem admitsShare (h : s.Formed) : s.AdmitsShare s.share where
  phase := h.phase
  written := h.written
  ownShed := h.ownShed
  resting hr := ⟨(h.atRest hr).offline, (h.atRest hr).computed⟩
  starting hn := ⟨(h.startup.2 hn).1, (h.startup.2 hn).2.1⟩

theorem admitsPanto (h : s.Formed) : s.AdmitsPanto s.panto where
  timers := h.timers
  resting hr := ⟨(h.atRest hr).lowered, (h.atRest hr).drive⟩
  starting hn := (h.startup.2 hn).2.2.1

theorem admitsArc (h : s.Formed) : s.AdmitsArc s.arc where
  arcs := h.arcs
  resting hr := (h.atRest hr).arcs
  starting hn := (h.startup.2 hn).2.2.2.1

theorem admitsFeeder (h : s.Formed) : s.AdmitsFeeder s.feeder where
  overload := h.overload
  truck := h.roles.2
  starting hn := (h.startup.2 hn).2.2.2.2

end State.Formed

/-! ### A ready truck's blocks may hold whatever has the form -/

namespace State.Awake

variable {s : State}

theorem isReady (h : s.Awake) : s.isReady = true := Formed.isReady_of_awake h

theorem running (h : s.Awake) : s.running = true := Formed.running_of_awake h

theorem not_resting (h : s.Awake) : ¬ s.Resting := Formed.not_resting_of_awake h

theorem not_starting (h : s.Awake) : ¬ s.isReady = false := by simp [h.isReady]

theorem admitsShare (h : s.Awake) {e : ShareEngine} (hphase : phaseForm e)
    (hwritten : e.requestedDemand ≤ 4095 ∧ e.manualCap ≤ 4095) (hshed : e.collapseTimer ≠ none → s.config.address ≠ 0) :
    s.AdmitsShare e :=
  ⟨hphase, hwritten, hshed, fun hr => absurd hr h.not_resting, fun hn => absurd hn h.not_starting⟩

theorem admitsPanto (h : s.Awake) {p : Pantograph} (hp : timerForm p) : s.AdmitsPanto p :=
  ⟨hp, fun hr => absurd hr h.not_resting, fun hn => absurd hn h.not_starting⟩

theorem admitsArc (h : s.Awake) {a : ArcMonitor} (ha : arcForm a) : s.AdmitsArc a :=
  ⟨ha, fun hr => absurd hr h.not_resting, fun hn => absurd hn h.not_starting⟩

/-- Awake is a matter of the stage and the configuration. -/
theorem congr (h : s.Awake) {u : State} (hstartup : u.startup = s.startup) (hconfig : u.config = s.config) : u.Awake :=
  ⟨hstartup.trans h.1, (State.isTruck_congr hconfig).trans h.2⟩

end State.Awake
end Sys2Proof.Machine

/-! ## The form every step keeps: the port, the limit and the arc records -/

namespace Sys2Proof.Machine

/-! ### The event flags (R175) -/

theorem flagForm_iff (p : TruckPort) : flagForm p ↔
    (∀ n, p.fresh.getLsbD n = true → p.flags.getLsbD n = true) ∧ ∀ n, 20 ≤ n → p.flags.getLsbD n = false := by
  refine and_congr ⟨fun h n hn => ?_, fun h => ?_⟩ ⟨fun h n hn => ?_, fun h => ?_⟩
  · have hbit := congrArg (BitVec.getLsbD · n) h
    have hlt : n < 32 := BitVec.lt_of_getLsbD hn
    simpa [hn, hlt] using hbit
  · refine BitVec.eq_of_getLsbD_eq fun n hlt => ?_
    have hbit := h n
    cases hfresh : p.fresh.getLsbD n <;> simp_all
  · have hbit := congrArg (BitVec.getLsbD · (n - 20)) h
    simpa [show 20 + (n - 20) = n by omega] using hbit
  · refine BitVec.eq_of_getLsbD_eq fun n _ => ?_
    simpa using h (20 + n) (by omega)

theorem flagForm_raise {p : TruckPort} (h : flagForm p) (e : Event) : flagForm (p.raise e) := by
  rw [flagForm_iff] at h ⊢
  simp only [TruckPort.raise_flags, TruckPort.raise_fresh, Event.getLsbD_or_mask, Bool.or_eq_true, decide_eq_true_eq]
  refine ⟨fun n hn => hn.imp_left (h.1 n), fun n hn => ?_⟩
  have := e.bit_lt
  simp [h.2 n hn, show n ≠ e.bit by omega]

/-- The flags of a port with these flags and this fresh set have the form (R175). -/
theorem flagForm_congr {p q : TruckPort} (h : flagForm p) (hflags : q.flags = p.flags) (hfresh : q.fresh = p.fresh) :
    flagForm q := by
  simpa only [flagForm, hflags, hfresh] using h

namespace State.Formed

variable {s : State}

theorem raise (h : s.Formed) (e : Event) : (s.raise e).Formed := h.withPort (flagForm_raise h.flags e)

theorem raiseIf (h : s.Formed) (b : Bool) (e : Event) : (s.raiseIf b e).Formed := by
  cases b
  · exact h
  · exact h.raise e

theorem answer (h : s.Formed) (st : Status) (d : List Byte) : (s.answer st d).Formed :=
  h.withPort (flagForm_congr h.flags rfl rfl)

theorem answerOk (h : s.Formed) : s.answerOk.Formed := h.answer ..

theorem discardResponse (h : s.Formed) : s.discardResponse.Formed := h.withPort (flagForm_congr h.flags rfl rfl)

/-! ### The limit (R65 to R75) -/

/-- A change of the Limit Generator on a part that is not at rest. -/
theorem limit_of_not_resting (h : s.Formed) (hr : ¬ s.Resting) (m : LimitGenerator) : ({ s with lim := m } : State).Formed :=
  h.withLim fun hc => absurd hc hr

/-- A cap on a part at rest finds the limit 0 already. -/
theorem immediateCap (h : s.Formed) (c : Nat) : (s.immediateCap c).Formed := by
  by_cases hr : s.Resting
  · rw [s.immediateCap_of_le c (by simp [(h.atRest hr).limit.1])]
    exact h
  · rw [s.immediateCap_frame]
    exact h.limit_of_not_resting hr _

theorem floorOnset (h : s.Formed) : s.floorOnset.Formed := h.immediateCap _

theorem applyTarget (h : s.Formed) (ha : s.Awake) (target : Nat) : (s.applyTarget target).Formed := by
  rw [s.applyTarget_frame]
  exact h.limit_of_not_resting ha.not_resting _

/-- At rest a boundary gives no strobe: the limit and the value marked are 0 and no application is marked (R72). -/
theorem boundaryStrobes_of_resting (h : s.Formed) (hr : s.Resting) : s.beginLimitPeriod.boundaryStrobes = false := by
  obtain ⟨hlimit, -, -, hmarked⟩ := (h.atRest hr).limit
  have hmark := (h.atRest hr).pins.1
  unfold State.boundaryStrobes
  split <;> simp [State.beginLimitPeriod, hlimit, hmarked, hmark]

theorem beginLimitPeriod (h : s.Formed) : s.beginLimitPeriod.Formed := by
  refine h.withLim fun hr => ?_
  obtain ⟨⟨hlimit, htarget, -, hmarked⟩, hmark, -, hlstb⟩ := h.lim_atRest hr
  exact ⟨⟨hlimit, htarget, hlimit, hmarked⟩, hmark, by simp [hlimit], hlstb⟩

theorem warmResetLimit (h : s.Formed) : s.warmResetLimit.Formed := by
  refine h.withLim fun hr => ?_
  obtain ⟨⟨-, -, hperiod, -⟩, -⟩ := h.lim_atRest hr
  exact ⟨⟨rfl, rfl, rfl, rfl⟩, rfl, rfl, by simp [hperiod]⟩

end State.Formed

/-! ### The arc records (R155 to R160) -/

theorem ArcRecord.inRange_of_aged {r : ArcRecord} (h : r.inRange) (b : Bool) : ({ r with aged := b } : ArcRecord).inRange := h

theorem inRange_markAged {log : List ArcRecord} (h : ∀ r ∈ log, r.inRange) (w : Nat) (now : ArcTime) :
    ∀ r ∈ markAged w now log, r.inRange := by
  simp only [markAged, List.mem_map]
  rintro _ ⟨r, hr, rfl⟩
  split
  · exact h r hr
  · exact h r hr

theorem mem_enterLog {log : List ArcRecord} {r q : ArcRecord} (h : q ∈ enterLog log r) : q ∈ log ∨ q = r := by
  unfold enterLog at h
  split at h
  · simpa using h
  · rcases List.mem_append.1 h with h | h
    · exact .inl (List.mem_of_mem_drop h)
    · exact .inr (by simpa using h)

theorem arcForm_enterLog {a : ArcMonitor} (h : arcForm a) {r : ArcRecord} (hr : r.inRange) :
    arcForm { a with log := enterLog a.log r } := by
  obtain ⟨hpending, hlog, hin, hlogged⟩ := h
  refine ⟨hpending, length_enterLog _ _ hlog, hin, fun q hq => ?_⟩
  rcases mem_enterLog hq with hq | rfl
  · exact hlogged q hq
  · exact hr

theorem arcForm_foldl_enterLog (l : List ArcRecord) {a : ArcMonitor} (h : arcForm a) (hl : ∀ r ∈ l, r.inRange) :
    arcForm { a with log := l.foldl enterLog a.log } := by
  induction l generalizing a with
  | nil => exact h
  | cons r rest ih =>
    obtain ⟨hr, hrest⟩ := List.forall_mem_cons.1 hl
    exact ih (arcForm_enterLog h hr) hrest

/-- With no record in the log, the flag clear and a threshold above 0, a count changes nothing (R160). -/
theorem State.takeStormCount_of_empty {s : State} (hlog : s.arc.log = []) (hstorm : s.arc.storm = false)
    (hthreshold : 0 < s.config.stormThreshold) : s.takeStormCount = s := by
  have hcount : ¬ s.config.stormThreshold ≤ 0 := by omega
  have hmarked : ({ s with arc := { s.arc with log := [] } } : State) = s := by rw [← hlog]
  simpa [State.takeStormCount, hlog, hstorm, markAged, stormCount, hcount] using hmarked

theorem stormThreshold_pos {c : Configuration} (h : configForm c) : 0 < c.stormThreshold := by
  obtain ⟨⟨-, ⟨hlow, -⟩, -⟩, -⟩ := h
  omega

namespace State.Formed

variable {s : State}

theorem takeStormCount_arcForm (h : s.Formed) : arcForm s.takeStormCount.arc := by
  obtain ⟨hlog, hpending⟩ := s.takeStormCount_log
  obtain ⟨hfew, hmany, hin, hlogged⟩ := h.arcs
  refine ⟨hpending ▸ hfew, by simpa [hlog] using hmany, hpending ▸ hin, ?_⟩
  rw [hlog]
  exact inRange_markAged hlogged _ _

theorem takeStormCount_flagForm (h : s.Formed) : flagForm s.takeStormCount.port := by
  rcases s.takeStormCount_cases with ⟨-, hport, -⟩ | ⟨-, -, hport, -⟩
  · exact hport ▸ h.flags
  · exact hport ▸ flagForm_raise h.flags _

/-- A count on a part at rest finds no record; elsewhere it keeps the records' form and the pending ones. -/
theorem takeStormCount (h : s.Formed) : s.takeStormCount.Formed := by
  by_cases hr : s.Resting
  · obtain ⟨-, hlog, hstorm⟩ := (h.atRest hr).arcs
    rw [State.takeStormCount_of_empty hlog hstorm (stormThreshold_pos h.config)]
    exact h
  · rw [s.takeStormCount_frame]
    refine (((h.withArc (a := s.takeStormCount.arc) ⟨h.takeStormCount_arcForm, fun hc => absurd hc hr, fun hn => ?_⟩).withPort
      h.takeStormCount_flagForm).limit_of_not_resting hr _)
    rw [s.takeStormCount_log.2]
    exact h.admitsArc.starting hn

theorem logRecord (h : s.Formed) (ha : s.Awake) {r : ArcRecord} (hr : r.inRange) : (s.logRecord r).Formed :=
  (h.withArc (ha.admitsArc (arcForm_enterLog h.arcs hr))).takeStormCount

theorem settleArcs (l : List ArcRecord) (h : s.Formed) (ha : s.Awake) (hlen : l.length ≤ 2) (hl : ∀ r ∈ l, r.inRange) :
    (s.settleArcs l).Formed := by
  induction l generalizing s with
  | nil =>
    exact h.withArc (ha.admitsArc ⟨by simp, h.arcs.2.1, by simp, h.arcs.2.2.2⟩)
  | cons r rest ih =>
    unfold State.settleArcs
    split
    · obtain ⟨hr, hrest⟩ := List.forall_mem_cons.1 hl
      simp only [List.length_cons] at hlen
      exact ih (h.logRecord ha hr) (ha.congr (by simp) (by simp)) (by omega) hrest
    · exact h.withArc (ha.admitsArc ⟨hlen, h.arcs.2.1, hl, h.arcs.2.2.2⟩)

/-- Records are completed where there are any, and that is on a ready truck. -/
theorem changeArcs (h : s.Formed) {l : List ArcRecord} (hlen : l.length = s.arc.pending.length) (hl : ∀ r ∈ l, r.inRange) :
    (s.changeArcs l).Formed := by
  unfold State.changeArcs
  split
  · exact h
  · rename_i hne
    have hpending : s.arc.pending ≠ [] := by
      intro hnil
      rw [hnil, List.length_nil, List.length_eq_zero_iff] at hlen
      exact hne (hlen.trans hnil.symm)
    exact h.settleArcs l (h.awake_of_arc hpending) (hlen ▸ h.arcs.1) hl

theorem flushArcs (h : s.Formed) : s.flushArcs.Formed := by
  unfold State.flushArcs
  split
  · exact h
  · rename_i hne
    have ha := h.awake_of_arc (by simpa using hne)
    obtain ⟨-, hlog, -, hlogged⟩ := arcForm_foldl_enterLog s.arc.pending h.arcs h.arcs.2.2.1
    have harc : arcForm { s.arc with log := s.arc.pending.foldl enterLog s.arc.log, pending := [] } :=
      ⟨by simp, hlog, by simp, hlogged⟩
    exact (h.withArc (ha.admitsArc harc)).takeStormCount

end State.Formed
end Sys2Proof.Machine

/-! ## The form every step keeps: the line -/

namespace Sys2Proof.Machine

/-! ### The transmit queue (R110 to R114) -/

/-- No count stands at its limit (R113). -/
def CarrierLink.CountsBelow (l : CarrierLink) : Prop :=
  (∀ q ∈ l.periodic, q.attempts < 12) ∧ (∀ q ∈ l.shed, q.attempts < 32) ∧ ∀ q ∈ l.depart, q.attempts < 32

/-- The transmitter works on a full slot, or rests with every slot empty (R110, R111). -/
def CarrierLink.Works (l : CarrierLink) : Prop :=
  match l.transmitter with
  | .idle => l.periodic = none ∧ l.shed = none ∧ l.depart = none
  | .waiting .periodic _ => l.periodic ≠ none ∧ l.shed = none ∧ l.depart = none
  | .waiting .shed _ => l.shed ≠ none
  | .waiting .depart _ => l.depart ≠ none
  | .sending _ _ => True

theorem linkForm_iff (l : CarrierLink) : linkForm l ↔ l.CountsBelow ∧ l.Works := by
  unfold linkForm CarrierLink.CountsBelow CarrierLink.Works
  tauto

theorem CarrierLink.CountsBelow.congr {l m : CarrierLink} (h : l.CountsBelow) (hp : m.periodic = l.periodic)
    (hs : m.shed = l.shed) (hd : m.depart = l.depart) : m.CountsBelow := by
  simpa only [CarrierLink.CountsBelow, hp, hs, hd] using h

/-- The limit of the slot's count as a number (R113). -/
theorem CarrierLink.countsBelow_iff (l : CarrierLink) :
    l.CountsBelow ↔ ∀ k, ∀ q ∈ l.slot k, q.attempts < k.attemptLimit := by
  refine ⟨fun ⟨hp, hs, hd⟩ k => ?_, fun h => ⟨h .periodic, h .shed, h .depart⟩⟩
  cases k
  · exact hp
  · exact hs
  · exact hd

@[simp] theorem CarrierLink.slot_setSlot_same (l : CarrierLink) (k : Slot) (q : Option Queued) : (l.setSlot k q).slot k = q := by
  cases k <;> rfl

theorem CarrierLink.slot_setSlot_other (l : CarrierLink) {k j : Slot} (q : Option Queued) (h : j ≠ k) :
    (l.setSlot k q).slot j = l.slot j := by
  cases k <;> cases j <;> first | rfl | exact absurd rfl h

theorem CarrierLink.CountsBelow.setSlot {l : CarrierLink} (h : l.CountsBelow) {k : Slot} {q : Option Queued}
    (hq : ∀ x ∈ q, x.attempts < k.attemptLimit) : (l.setSlot k q).CountsBelow := by
  rw [CarrierLink.countsBelow_iff] at h ⊢
  intro j
  by_cases hj : j = k
  · subst hj
    simpa using hq
  · rw [l.slot_setSlot_other q hj]
    exact h j

/-- The frame selected stands in a full slot; with none the transmitter rests (R111). -/
theorem CarrierLink.works_select (l : CarrierLink) (c : Nat) : (l.select c).Works := by
  unfold CarrierLink.select CarrierLink.nextUrgent
  split
  next k hk =>
    split at hk
    · cases hk
    · obtain rfl := Option.some.inj hk
      simp_all [CarrierLink.Works]
    · obtain rfl := Option.some.inj hk
      simp_all [CarrierLink.Works]
    · split at hk <;> obtain rfl := Option.some.inj hk <;> simp_all [CarrierLink.Works]
  next hk =>
    have hnone : l.shed = none ∧ l.depart = none := by
      split at hk
      · simp [*]
      · cases hk
      · cases hk
      · split at hk <;> cases hk
    split <;> simp_all [CarrierLink.Works]

theorem CarrierLink.CountsBelow.linkForm_select {l : CarrierLink} (h : l.CountsBelow) (c : Nat) : linkForm (l.select c) :=
  (linkForm_iff _).2 ⟨h.congr (by simp) (by simp) (by simp), l.works_select c⟩

/-- What a full slot makes of a working transmitter stays so when a slot's frame is replaced (R110). -/
theorem CarrierLink.Works.setSlot_some {l : CarrierLink} (h : l.Works) {k : Slot} (hk : l.slot k ≠ none) (q : Queued) :
    (l.setSlot k (some q)).Works := by
  cases ht : l.transmitter with
  | idle =>
    simp only [CarrierLink.Works, ht] at h
    cases k <;> simp_all [CarrierLink.slot]
  | sending f since => cases k <;> simp [CarrierLink.Works, CarrierLink.setSlot, ht]
  | waiting j due =>
    cases j <;> cases k <;> simp_all [CarrierLink.Works, CarrierLink.setSlot, CarrierLink.slot]

theorem CarrierLink.CountsBelow.noteOrder {l : CarrierLink} (h : l.CountsBelow) (k : Slot) : (l.noteOrder k).CountsBelow := by
  cases k <;> exact h

/-- A frame placed leaves the queue in form (R110, R111). -/
theorem linkForm_place {l : CarrierLink} (h : linkForm l) (k : Slot) (f : Frame) (c : Nat) : linkForm (l.place k f c) := by
  obtain ⟨hcounts, hworks⟩ := (linkForm_iff l).1 h
  unfold CarrierLink.place
  split
  next q hq =>
    have hlimit := (l.countsBelow_iff.1 hcounts) k q hq
    exact (linkForm_iff _).2 ⟨hcounts.setSlot (by simpa using hlimit), hworks.setSlot_some (by simp [hq]) _⟩
  next hempty =>
    have hfilled : ((l.noteOrder k).setSlot k (some { frame := f, attempts := 0 })).CountsBelow :=
      (hcounts.noteOrder k).setSlot (by cases k <;> simp [Slot.attemptLimit, Slot.isUrgent, periodicAttempts, urgentAttempts])
    have ht : ((l.noteOrder k).setSlot k (some { frame := f, attempts := 0 })).transmitter = l.transmitter := by
      cases k <;> rfl
    unfold CarrierLink.afterFill
    rw [ht]
    split
    next => exact hfilled.linkForm_select c
    next htx =>
      split
      · exact hfilled.linkForm_select c
      · rename_i hk
        have : k = .periodic := by cases k <;> simp_all [Slot.isUrgent]
        subst this
        simp only [CarrierLink.Works, htx] at hworks
        exact absurd hempty hworks.1
    all_goals
      rename_i htx
      refine (linkForm_iff _).2 ⟨hfilled, ?_⟩
      cases k <;> simp_all [CarrierLink.Works, CarrierLink.setSlot, CarrierLink.noteOrder]

/-- The periodic slot emptied leaves the queue in form (R115). -/
theorem linkForm_emptyPeriodic {l : CarrierLink} (h : linkForm l) (c : Nat) : linkForm (l.emptyPeriodic c) := by
  obtain ⟨⟨-, hshed, hdepart⟩, hworks⟩ := (linkForm_iff l).1 h
  have hcounts : ({ l with periodic := none } : CarrierLink).CountsBelow := ⟨by simp, hshed, hdepart⟩
  unfold CarrierLink.emptyPeriodic
  split
  next => exact hcounts.linkForm_select c
  all_goals
    rename_i htx
    refine (linkForm_iff _).2 ⟨hcounts, ?_⟩
    simp_all [CarrierLink.Works]

theorem linkForm_warmReset (l : CarrierLink) : linkForm l.warmReset := by
  refine (linkForm_iff _).2 ⟨⟨by simp [CarrierLink.warmReset], by simp [CarrierLink.warmReset], by simp [CarrierLink.warmReset]⟩, ?_⟩
  unfold CarrierLink.Works CarrierLink.warmReset
  cases l.transmitter <;> simp

/-! ### The receive assembler (R105, R106) -/

/-- A frame in assembly has a byte, has passed the header tests so far and is not complete. -/
def Assembler.Begun (a : Assembler) : Prop :=
  ∀ bytes, a = .assembling bytes →
    bytes ≠ [] ∧ (∀ n, headerFails (bytes.take n) = false) ∧ frameComplete bytes = false ∧ bytes.length < 20

theorem Assembler.Begun.of_waiting : Assembler.Begun .waiting := by
  intro bytes h
  cases h

theorem Assembler.Begun.of_hunting : Assembler.Begun .hunting := by
  intro bytes h
  cases h

theorem assemblerForm_iff (l : CarrierLink) (clock : Nat) : assemblerForm l clock ↔ l.listenFrom ≤ clock ∧ l.assembler.Begun :=
  Iff.rfl

theorem assemblerForm_congr {l m : CarrierLink} {clock : Nat} (h : assemblerForm l clock) (ha : m.assembler = l.assembler)
    (hf : m.listenFrom = l.listenFrom) : assemblerForm m clock := by
  simpa only [assemblerForm, ha, hf] using h

/-- A kind's length is at most that of a DEMAND (R103). -/
theorem kindLength_le {kind : Byte} {n : Nat} (h : kindLength kind = some n) : n ≤ 13 := by
  unfold kindLength at h
  split at h <;> simp at h <;> omega

/-- Bytes that pass the header tests and are not a whole frame are fewer than the 20 of a DEMAND (R103, R106). -/
theorem length_lt_of_begun {bytes : List Byte} (hpass : ∀ n, headerFails (bytes.take n) = false)
    (hincomplete : frameComplete bytes = false) : bytes.length < 20 := by
  rcases bytes with _ | ⟨b0, _ | ⟨b1, _ | ⟨b2, _ | ⟨b3, _ | ⟨b4, rest⟩⟩⟩⟩⟩ <;> try simp
  have h1 := hpass 1
  have h2 := hpass 2
  have h5 := hpass 5
  simp only [List.take_succ_cons, List.take_zero, headerFails] at h1 h2 h5
  obtain rfl : b0 = 0xA5 := by simpa using h1
  cases hkind : kindLength b1 with
  | none => simp [hkind] at h2
  | some len =>
    have hle := kindLength_le hkind
    have hlen : len = b4.toNat := by simpa [hkind] using h5
    simp [frameComplete] at hincomplete
    omega

theorem assembled_begun {bytes : List Byte} (hne : bytes ≠ [])
    (hpass : ∀ n, n < bytes.length → headerFails (bytes.take n) = false) : (assembled bytes).1.Begun := by
  unfold assembled
  split
  · exact .of_hunting
  · split
    · exact .of_waiting
    · rename_i hheader hcomplete
      have hall : ∀ n, headerFails (bytes.take n) = false := by
        intro n
        by_cases hn : n < bytes.length
        · exact hpass n hn
        · rw [List.take_of_length_le (by omega)]
          simpa using hheader
      intro x hx
      obtain rfl : bytes = x := by simpa using hx
      exact ⟨hne, hall, by simpa using hcomplete, length_lt_of_begun hall (by simpa using hcomplete)⟩

/-- A character taken leaves the assembler in form (R105, R106). -/
theorem Assembler.Begun.take {a : Assembler} (h : a.Begun) (c : Character) : (a.take c).1.Begun := by
  unfold Assembler.take
  split
  next =>
    split
    · refine assembled_begun (by simp) fun n hn => ?_
      obtain rfl : n = 0 := by simpa using hn
      rfl
    · exact .of_hunting
  next bytes =>
    obtain ⟨-, hpass, -, -⟩ := h bytes rfl
    split
    · refine assembled_begun (by simp) fun n hn => ?_
      rw [List.take_append_of_le_length (by simp at hn; omega)]
      exact hpass n
    · exact .of_hunting
  next => exact .of_hunting

theorem CarrierLink.afterGap_begun {l : CarrierLink} (h : l.assembler.Begun) (x : Nat) : (l.afterGap x).Begun := by
  unfold CarrierLink.afterGap
  split
  · exact .of_waiting
  · exact h

namespace State.Formed

variable {s : State}

/-- A change of the transmit queue that leaves the receive assembler alone. -/
theorem withQueue (h : s.Formed) {l : CarrierLink} (hl : linkForm l) (ha : l.assembler = s.link.assembler)
    (hf : l.listenFrom = s.link.listenFrom) : ({ s with link := l } : State).Formed :=
  h.withLink hl (assemblerForm_congr h.receiver ha hf)

theorem offer (h : s.Formed) (k : Slot) (p : Payload) : (s.offer k p).Formed := by
  unfold State.offer
  split
  · exact h.withQueue (linkForm_place h.link ..) (by simp) (by simp)
  · exact h

theorem emptyPeriodic (h : s.Formed) : s.emptyPeriodic.Formed :=
  h.withQueue (linkForm_emptyPeriodic h.link _) (by simp) (by simp)

theorem startSending (h : s.Formed) (k : Slot) (q : Queued) : (s.startSending k q).Formed := by
  obtain ⟨hcounts, -⟩ := (linkForm_iff _).1 h.link
  have hempty : (s.link.setSlot k none).CountsBelow := hcounts.setSlot (by simp)
  have hfrom : (s.link.setSlot k none).listenFrom = s.link.listenFrom := by cases k <;> rfl
  exact h.withLink ((linkForm_iff _).2 ⟨hempty, trivial⟩) ⟨hfrom ▸ h.receiver.1, Assembler.Begun.of_waiting⟩

/-- A deferral keeps the frame with its count below the limit, or drops it (R113). -/
theorem deferFrame (h : s.Formed) {k : Slot} {q : Queued} {due : Nat} (hk : s.link.slot k = some q)
    (ht : s.link.transmitter = .waiting k due) : (s.deferFrame k q).Formed := by
  obtain ⟨hcounts, hworks⟩ := (linkForm_iff _).1 h.link
  have hfields : ∀ x, (s.link.setSlot k x).assembler = s.link.assembler ∧ (s.link.setSlot k x).listenFrom = s.link.listenFrom := by
    cases k <;> exact fun _ => ⟨rfl, rfl⟩
  unfold State.deferFrame
  split
  · refine (h.raiseIf _ _).withQueue ?_ ?_ ?_
    · exact CarrierLink.CountsBelow.linkForm_select (CarrierLink.CountsBelow.setSlot (by simpa using hcounts) (by simp)) _
    · simp [hfields]
    · simp [hfields]
  · rename_i hlimit
    have hset : (s.link.setSlot k (some { q with attempts := q.attempts + 1 })).CountsBelow :=
      hcounts.setSlot (by simpa using hlimit)
    refine h.withQueue ((linkForm_iff _).2 ⟨hset, ?_⟩) (hfields _).1 (hfields _).2
    simp only [CarrierLink.Works, ht] at hworks
    cases k <;> simp_all [CarrierLink.Works, CarrierLink.setSlot]

theorem callShed (h : s.Formed) (units : Nat) : (s.callShed units).Formed := (h.offer _ _).raiseIf _ _

theorem feederTick (h : s.Formed) : s.feederTick.Formed := h.offer _ _

end State.Formed
end Sys2Proof.Machine

/-! ## The form every step keeps: the tables and reception -/

namespace Sys2Proof.Machine

/-! ### The hold list (R77 to R82) -/

/-- R79, the cases of a full list, whatever its expiries: the earliest entry decides. -/
theorem takenHolds_of_full_remaining {now : Reading} {o : Address} {units : Nat} {reason : Byte} {first : Hold} {l : List Hold}
    (hnew : ∀ q ∈ first :: l, q.origin ≠ o) (hfull : l.length = 3) : takenHolds now o units reason (first :: l) =
      if first.remaining now < 10 * units then insertHold (shedHold now o units reason) now l else first :: l :=
  (if_neg (not_hasHold_of_absent hnew)).trans (if_neg (by simp [hfull, holdCapacity]))

/-- A SHED from a valid address keeps the form of the list, whatever its expiries (R77, R79). -/
theorem holdForm_takenHolds {l : List Hold} (hform : holdForm l) {o : Address} (hvalid : validAddress o) (now : Reading)
    (units : Nat) (reason : Byte) : holdForm (takenHolds now o units reason l) := by
  by_cases hpresent : ∃ q ∈ l, q.origin = o
  · rw [takenHolds_of_present hpresent]
    exact holdForm_insertHold (holdForm_of_sublist List.filter_sublist hform) hvalid
      (fun q hq => ((mem_removeHold o l q).1 hq).2) ((length_removeHold_lt hpresent).trans_le hform.1)
  · have hnew : ∀ q ∈ l, q.origin ≠ o := fun q hq horigin => hpresent ⟨q, hq, horigin⟩
    by_cases hroom : l.length < 4
    · rw [takenHolds_of_room hnew hroom]
      exact holdForm_insertHold hform hvalid hnew hroom
    · have hlength := hform.1
      cases l with
      | nil => simp at hroom
      | cons first rest =>
        have hfull : rest.length = 3 := by simp only [List.length_cons] at hroom hlength; omega
        rw [takenHolds_of_full_remaining hnew hfull]
        split
        · exact holdForm_insertHold (holdForm_of_sublist (List.sublist_cons_self _ _) hform) hvalid
            (List.forall_mem_of_forall_mem_cons hnew) (by omega)
        · exact hform

/-! ### The peer table (R26 to R34) -/

theorem tableForm_of_sublist {own : Address} {l kept : List Peer} (hsub : kept.Sublist l) (hform : tableForm own l) :
    tableForm own kept := by
  obtain ⟨hlength, horder, hentries⟩ := hform
  exact ⟨hsub.length_le.trans hlength, horder.sublist hsub, fun q hq => hentries q (hsub.subset hq)⟩

/-- The entry evicted is one of the table's (R31). -/
theorem mem_of_oldestStale {now : Reading} {l : List Peer} {q : Peer} (h : oldestStale now l = some q) : q ∈ l := by
  induction l generalizing q with
  | nil => cases h
  | cons p rest ih =>
    unfold oldestStale at h
    cases hrest : oldestStale now rest with
    | none =>
      simp only [hrest, Option.ite_none_left_eq_some, Option.some.injEq] at h
      exact h.2 ▸ List.mem_cons_self
    | some r =>
      simp only [hrest] at h
      split at h
      · exact Option.some.inj h ▸ List.mem_cons_self
      · exact Option.some.inj h ▸ List.mem_cons_of_mem _ (ih hrest)

/-- An eviction makes room for the new entry (R31). -/
theorem tableForm_evict {own : Address} {p q : Peer} {l : List Peer} (hform : tableForm own l)
    (hp : validAddress p.address ∧ p.address ≠ own ∧ p.inRange) (hnew : ∀ r ∈ l, r.address ≠ p.address) (hq : q ∈ l) :
    tableForm own (insertPeer p (removePeer q.address l)) := by
  have hlength := length_removePeer q l hform.2.1 hq
  have hlimit := hform.1
  exact tableForm_insertPeer (tableForm_of_sublist List.filter_sublist hform) hp
    (fun r hr => hnew r ((mem_removePeer _ l r).1 hr).1) (by omega)

namespace State.Formed

variable {s : State}

/-- The overflow timer may run on a truck once the load has ended (R33). -/
theorem withOverflowTimer (h : s.Formed) (hr : ¬ s.Resting) (timer : Option Nat) :
    ({ s with share := { s.share with overflowTimer := timer } } : State).Formed :=
  h.withShare { h.admitsShare with resting := fun hc => absurd hc hr }

theorem refusePeer (h : s.Formed) (hrun : s.running = true) : s.refusePeer.Formed := by
  unfold State.refusePeer
  dsimp only
  split
  · rename_i htruck
    have ho := (h.raise .tableOverflow).withOverflowTimer (not_resting hrun htruck)
      (s.afterMs (100 * s.config.period))
    split
    · exact ho
    · exact ho.floorOnset
  · exact h.raise _

/-- A frame accepted keeps the table in form (R28 to R32). -/
theorem takePeer (h : s.Formed) (hrun : s.running = true) {p : Peer}
    (hp : validAddress p.address ∧ p.address ≠ s.config.address ∧ p.inRange) : (s.takePeer p).Formed := by
  have hstarted : ∀ l : List Peer, s.running = false → l = [] := fun l hn => absurd hn (by simp [hrun])
  by_cases hknown : ∃ q ∈ s.peers, q.address = p.address
  · rw [State.takePeer_of_known hknown]
    exact h.withPeers (tableForm_updatePeer h.table hp) (hstarted _)
  · have hnew : ∀ q ∈ s.peers, q.address ≠ p.address := fun q hq haddress => hknown ⟨q, hq, haddress⟩
    by_cases hroom : s.peers.length < 12
    · rw [State.takePeer_of_room hnew hroom]
      exact h.withPeers (tableForm_insertPeer h.table hp hnew hroom) (hstarted _)
    · have hunknown : ¬ hasPeer s.peers p.address = true := mt (hasPeer_iff _ _).1 hknown
      rw [State.takePeer, if_neg hunknown, if_neg (show ¬ s.peers.length < peerCapacity from hroom)]
      split
      next q hq => exact h.withPeers (tableForm_evict h.table hp hnew (mem_of_oldestStale hq)) (hstarted _)
      next => exact h.refusePeer hrun

theorem withSublist (h : s.Formed) {l : List Peer} (hsub : l.Sublist s.peers) : ({ s with peers := l } : State).Formed :=
  h.withPeers (tableForm_of_sublist hsub h.table) fun hn => List.sublist_nil.1 ((h.startup.1 hn).1 ▸ hsub)

/-- An entry's mark of R36 is no part of the form. -/
theorem withMarked (h : s.Formed) {f : Peer → Peer} (ha : ∀ p, (f p).address = p.address) (hin : ∀ p, p.inRange → (f p).inRange) :
    ({ s with peers := s.peers.map f } : State).Formed := by
  obtain ⟨hlength, horder, hentries⟩ := h.table
  refine h.withPeers ⟨by simpa using hlength, ?_, ?_⟩ fun hn => by rw [(h.startup.1 hn).1]; rfl
  · simpa [List.pairwise_map, ha] using horder
  · intro q hq
    obtain ⟨p, hp, rfl⟩ := List.mem_map.1 hq
    obtain ⟨hvalid, hother, hrange⟩ := hentries p hp
    exact ⟨(ha p).symm ▸ hvalid, (ha p).symm ▸ hother, hin p hrange⟩

theorem withFewerHolds (h : s.Formed) {l : List Hold} (hsub : l.Sublist s.holds) : ({ s with holds := l } : State).Formed :=
  h.withHoldList (holdForm_of_sublist hsub h.holds) fun hr => List.sublist_nil.1 ((h.atRest hr).holds ▸ hsub)

theorem withHolds (h : s.Formed) (hr : ¬ s.Resting) {l : List Hold} (hl : holdForm l) : (s.withHolds l).Formed := by
  have hlist := h.withHoldList hl fun hc => absurd hc hr
  unfold State.withHolds
  dsimp only
  split
  · exact (hlist.raise _).floorOnset
  · exact hlist

theorem takeShed (h : s.Formed) (hrun : s.running = true) {o : Address} (ho : validAddress o) (units : Nat) (reason : Byte) :
    (s.takeShed o units reason).Formed := by
  unfold State.takeShed
  split
  · rename_i htruck
    split
    · exact h.withFewerHolds List.filter_sublist
    · exact h.withHolds (not_resting hrun htruck) (holdForm_takenHolds h.holds ho _ _ _)
  · exact h

/-! ### Reception (R105 to R109) -/

theorem handOn (h : s.Formed) (hrun : s.running = true) {f : Frame} (hvalid : validAddress f.source)
    (hother : f.source ≠ s.config.address) : (s.handOn f).Formed := by
  unfold State.handOn
  split
  next d _ => exact h.takePeer hrun ⟨hvalid, hother, Peer.inRange_of_takenDemand f.source d s.now⟩
  next d _ => exact h.takePeer hrun ⟨hvalid, hother, Peer.inRange_of_takenSupply f.source d s.now⟩
  next => exact h.takeShed hrun hvalid _ _
  next => exact h.withSublist List.filter_sublist

theorem takeFrame (h : s.Formed) (hrun : s.running = true) (f : Frame) (crc : Half) : (s.takeFrame f crc).Formed := by
  unfold State.takeFrame
  split
  · rename_i hframe
    have hvalid : validAddress f.source := by
      simp only [frameValid, Bool.and_eq_true, bne_iff_ne, ne_eq] at hframe
      exact ⟨hframe.1.2, hframe.2⟩
    split
    · exact h.raise _
    · rename_i hother
      exact h.handOn hrun hvalid hother
  · exact h

/-- A character taken moves the assembler on, and ends by now (R105). -/
theorem takeCharacter (h : s.Formed) (c : Character) : (s.takeCharacter c).Formed := by
  unfold State.takeCharacter
  split
  · rename_i htakes
    simp only [State.takes, State.receiving, Bool.and_eq_true, decide_eq_true_eq] at htakes
    obtain ⟨⟨⟨hrun, -⟩, -⟩, hended⟩ := htakes
    have hlink : linkForm { s.link with
        assembler := ((s.link.afterGap c.start).take c).1, listenFrom := c.start + characterTime } := h.link
    have htaken := h.withLink hlink ⟨hended, (CarrierLink.afterGap_begun h.receiver.2 c.start).take c⟩
    dsimp only
    split
    next whole _ => exact htaken.takeFrame hrun whole.1 whole.2
    next => exact htaken
  · exact h

theorem hear (l : List Character) (h : s.Formed) : (s.hear l).Formed := by
  induction l generalizing s with
  | nil => exact h
  | cons c rest ih => exact ih (h.takeCharacter c)

end State.Formed
end Sys2Proof.Machine

/-! ## The form every step keeps: the phases, the pantograph and the feeder -/

namespace Sys2Proof.Machine

/-! ### The phase, its timers and the sub-state (R46, R84, R89) -/

/-- A phase without a crossing has neither its timer nor a sub-state. -/
theorem phaseForm.crossing_none {e : ShareEngine} (h : phaseForm e) (hp : e.phase ≠ .crossing) :
    e.crossTimer = none ∧ e.crossSub = .none := by
  obtain ⟨-, htimer, hsub, -⟩ := h
  exact ⟨by_contra fun hne => hp (htimer.1 hne), by_contra fun hne => hp (hsub.1 hne)⟩

theorem phaseForm.collapse_none {e : ShareEngine} (h : phaseForm e) (hp : e.phase ≠ .active) : e.collapseTimer = none :=
  by_contra fun hne => hp (h.2.2.2 hne)

theorem phaseForm.listen_none {e : ShareEngine} (h : phaseForm e) (hp : e.phase ≠ .listen) : e.listenTimer = none :=
  by_contra fun hne => hp (h.1.1 hne)

theorem phaseForm_offline {e : ShareEngine} (hp : e.phase = .offline) (hl : e.listenTimer = none) (hx : e.crossTimer = none)
    (hs : e.crossSub = .none) (hc : e.collapseTimer = none) : phaseForm e := by
  simp [phaseForm, hp, hl, hx, hs, hc]

theorem phaseForm_listen {e : ShareEngine} (hp : e.phase = .listen) (hl : e.listenTimer ≠ none) (hx : e.crossTimer = none)
    (hs : e.crossSub = .none) (hc : e.collapseTimer = none) : phaseForm e := by
  simp [phaseForm, hp, hl, hx, hs, hc]

theorem phaseForm_active {e : ShareEngine} (hp : e.phase = .active) (hl : e.listenTimer = none) (hx : e.crossTimer = none)
    (hs : e.crossSub = .none) : phaseForm e := by
  simp [phaseForm, hp, hl, hx, hs]

theorem phaseForm_crossing {e : ShareEngine} (hp : e.phase = .crossing) (hl : e.listenTimer = none) (hx : e.crossTimer ≠ none)
    (hs : e.crossSub ≠ .none) (hc : e.collapseTimer = none) : phaseForm e := by
  simp [phaseForm, hp, hl, hx, hs, hc]

/-! ### The timers of a pantograph state (R120) -/

theorem timerForm_enter (p : Pantograph) (st : PantoState) : timerForm (p.enter st) := by simp [timerForm]

theorem timerForm_raising (p : Pantograph) (timer : Option Nat) : timerForm { p.enter .raising with raiseTimer := timer } := by
  simp [timerForm]

theorem timerForm_lowering (p : Pantograph) (timer : Option Nat) : timerForm { p.enter .lowering with lowerTimer := timer } := by
  simp [timerForm]

theorem timerForm_unloading (p : Pantograph) (loss timer : Option Nat) :
    timerForm { p.enter .unloading with lossTimer := loss, unloadTimer := timer } := by
  simp [timerForm]

/-- The form reads the state and the timers alone. -/
theorem timerForm.of_same {p q : Pantograph} (h : timerForm p) (hstate : q.state = p.state) (hraise : q.raiseTimer = p.raiseTimer)
    (hqual : q.qualTimer = p.qualTimer) (hloss : q.lossTimer = p.lossTimer) (himbalance : q.imbalanceTimer = p.imbalanceTimer)
    (hunload : q.unloadTimer = p.unloadTimer) (hlower : q.lowerTimer = p.lowerTimer) : timerForm q := by
  simpa only [timerForm, hstate, hraise, hqual, hloss, himbalance, hunload, hlower] using h

namespace State.Formed

variable {s : State}

/-! ### The phases (R46 to R51, R84 to R99) -/

/-- The phase becomes LISTEN on a ready truck, with the crossing ended (R47, R96, R97). -/
theorem withListen (h : s.Formed) (ha : s.Awake) (hp : s.share.phase ≠ .active) (due : Nat) : ({ s with share := { s.share with
    phase := .listen, listenTimer := some due, crossSub := .none, crossTimer := none } } : State).Formed :=
  h.withShare (ha.admitsShare
    (phaseForm_listen rfl (by simp) rfl rfl (h.phase.collapse_none hp)) h.written h.ownShed)

theorem contactEntered (h : s.Formed) (ha : s.Awake) : s.contactEntered.Formed := by
  unfold State.contactEntered
  split
  · rename_i hoffline
    have hp : s.share.phase = .offline := by simpa [ha.2] using hoffline
    have hnone := h.phase.crossing_none (by simp [hp])
    refine h.withShare (ha.admitsShare ?_ h.written h.ownShed)
    exact phaseForm_listen rfl (by simp [State.afterMs]) hnone.1 hnone.2 (h.phase.collapse_none (by simp [hp]))
  · exact h

/-- OFFLINE, with the timers and the sub-state of every phase ended (R49, R84, R99). -/
theorem withOffline (h : s.Formed) : ({ s with share := { s.share with
    phase := .offline, listenTimer := none, crossSub := .none, crossTimer := none, collapseTimer := none } } : State).Formed :=
  h.withShare
    { phase := phaseForm_offline rfl rfl rfl rfl rfl
      written := h.written
      ownShed := by simp
      resting := fun hr => ⟨⟨rfl, rfl, (h.atRest hr).offline.2.2⟩, (h.atRest hr).computed⟩
      starting := fun hn => ⟨rfl, (h.startup.2 hn).2.1⟩ }

theorem contactLeft (h : s.Formed) (down : Bool) : (s.contactLeft down).Formed := by
  unfold State.contactLeft
  split
  · have hleft := (h.withOffline.immediateCap 0).emptyPeriodic
    dsimp only
    split
    · exact hleft.offer _ _
    · exact hleft
  · exact h

theorem withNoCollapse (h : s.Formed) : ({ s with share := { s.share with collapseTimer := none } } : State).Formed :=
  h.withShare
    { h.admitsShare with
      phase := ⟨h.phase.1, h.phase.2.1, h.phase.2.2.1, by simp⟩
      ownShed := by simp
      resting := fun hr => ⟨⟨(h.atRest hr).offline.1, rfl, (h.atRest hr).offline.2.2⟩, (h.atRest hr).computed⟩ }

theorem enterSilent (h : s.Formed) : s.enterSilent.Formed := (h.immediateCap 0).withNoCollapse

theorem withEpisode (h : s.Formed) (hr : ¬ s.Resting) (b : Bool) : ({ s with share := { s.share with episode := b } } : State).Formed :=
  h.withShare { h.admitsShare with resting := fun hc => absurd hc hr }

theorem requestCrossing (h : s.Formed) : s.requestCrossing.Formed := by
  by_cases hactive : (s.isTruck && s.share.phase == .active) = true
  · have hp : s.share.phase = .active := by simp_all
    have ha := h.awake_of_phase (by simp [hp])
    have hlisten := h.phase.listen_none (by simp [hp])
    unfold State.requestCrossing
    rw [if_pos hactive]
    dsimp only
    have hqueue : (if s.mode != .silent then (s.immediateCap 0).emptyPeriodic.offer .depart .depart
        else (s.immediateCap 0).emptyPeriodic).Formed := by
      split
      · exact (h.immediateCap 0).emptyPeriodic.offer _ _
      · exact (h.immediateCap 0).emptyPeriodic
    refine hqueue.withShare (State.Awake.admitsShare (ha.congr ?_ ?_) (phaseForm_crossing rfl ?_ ?_ (by simp) rfl) ?_ (by simp))
    all_goals split <;> simp [State.afterMs, hlisten, h.written]
  · rw [State.requestCrossing, if_neg hactive]
    exact h

theorem completeCrossing (h : s.Formed) (hp : s.share.phase = .crossing) : s.completeCrossing.Formed := by
  have ha := h.awake_of_phase (by simp [hp])
  have hemptied := (h.withSublist (List.nil_sublist _)).withFewerHolds (List.nil_sublist _)
  have hlisten := (hemptied.withOverflowTimer ha.not_resting none).withListen ha (by simp [hp])
    (s.clock + 1000 * s.config.listenTime)
  exact hlisten.raise .crossDone

theorem withSub (h : s.Formed) (hp : s.share.phase = .crossing) {c : CrossSub} (hc : c ≠ .none) :
    ({ s with share := { s.share with crossSub := c } } : State).Formed :=
  h.withShare ((h.awake_of_phase (by simp [hp])).admitsShare
    ⟨h.phase.1, h.phase.2.1, iff_of_true hc hp, h.phase.2.2.2⟩ h.written h.ownShed)

theorem setInCrossing (h : s.Formed) (hp : s.share.phase = .crossing) : s.setInCrossing.Formed := by
  unfold State.setInCrossing
  dsimp only
  split
  · exact h
  · split
    · exact h.withSub hp (by simp)
    · exact h
  · split
    · exact h.withSub hp (by simp)
    · exact h
  · split
    · exact h.completeCrossing hp
    · exact h

/-- In ACTIVE and not SILENT the own address is not 0x0000 (R54). -/
theorem address_ne_zero {s : State} (ha : s.isTruck = true) (hp : s.share.phase = .active) (hm : s.mode ≠ .silent) :
    s.config.address ≠ 0 := by
  have htakes : s.linkTakes = true := by rw [← s.mode_bne_silent ha hp]; simpa using hm
  exact (s.linkTakes_iff.1 htakes).2

/-- The collapse timer is started in ACTIVE alone, and with an address (R84). -/
theorem setInCollapse (h : s.Formed) : s.setInCollapse.Formed := by
  unfold State.setInCollapse
  split
  · split
    · rename_i hstarts
      simp only [Bool.and_eq_true, beq_iff_eq, bne_iff_ne, ne_eq] at hstarts
      obtain ⟨⟨hp, hm⟩, -⟩ := hstarts
      have ha := h.awake_of_phase (by simp [hp])
      exact h.withShare (ha.admitsShare ⟨h.phase.1, h.phase.2.1, h.phase.2.2.1, fun _ => hp⟩ h.written
        fun _ => address_ne_zero ha.2 hp hm)
    · exact h
  · exact h.withNoCollapse

theorem withEpisodeOver (h : s.Formed) : ({ s with share := { s.share with episode := false } } : State).Formed :=
  h.withShare { h.admitsShare with
    resting := fun hr => ⟨⟨(h.atRest hr).offline.1, (h.atRest hr).offline.2.1, rfl⟩, (h.atRest hr).computed⟩ }

theorem setInEpisode (h : s.Formed) : s.setInEpisode.Formed := by
  unfold State.setInEpisode
  split
  · exact h.withEpisodeOver
  · exact h

theorem setInShareEngine (h : s.Formed) : s.setInShareEngine.Formed := by
  unfold State.setInShareEngine
  dsimp only
  split
  · rename_i hp
    exact h.setInCollapse.setInEpisode.setInCrossing (by simpa using hp)
  · exact h.setInCollapse.setInEpisode

/-! ### The pantograph (R120 to R137) -/

theorem enterRaising (h : s.Formed) (ha : s.Awake) : s.enterRaising.Formed := h.withPanto (ha.admitsPanto (timerForm_raising _ _))

theorem enterLowering (h : s.Formed) (ha : s.Awake) : s.enterLowering.Formed :=
  h.withPanto (ha.admitsPanto (timerForm_lowering _ _))

theorem enterUnloading (h : s.Formed) (ha : s.Awake) (loss : Option Nat) : (s.enterUnloading loss).Formed :=
  h.withPanto (ha.admitsPanto (timerForm_unloading _ _ _))

theorem enterLowered (h : s.Formed) (ha : s.Awake) : s.enterLowered.Formed :=
  (h.withPanto (ha.admitsPanto (timerForm_enter _ _))).flushArcs

theorem endRaise (h : s.Formed) (ha : s.Awake) : s.endRaise.Formed := (h.raise .noWire).enterLowering ha

/-- What is no timer of a state may change on a ready truck. -/
theorem withTimersKept (h : s.Formed) (ha : s.Awake) {p : Pantograph} (hp : timerForm p) : ({ s with panto := p } : State).Formed :=
  h.withPanto (ha.admitsPanto hp)

theorem contactLoss (h : s.Formed) (ha : s.Awake) : s.contactLoss.Formed := by
  unfold State.contactLoss
  dsimp only
  split
  · have hcleared := (h.raise .contactLost).withTimersKept ha
      (p := { s.panto with history := [] }) (h.timers.of_same rfl rfl rfl rfl rfl rfl rfl)
    exact ((hcleared.raise .repeatedLoss).enterUnloading ha none).contactLeft true
  · have hadded := (h.raise .contactLost).withTimersKept ha
      (p := { s.panto with history := addLoss s.panto.history s.now }) (h.timers.of_same rfl rfl rfl rfl rfl rfl rfl)
    exact (hadded.enterRaising ha).contactLeft false

theorem lossInUnloading (h : s.Formed) (ha : s.Awake) : s.lossInUnloading.Formed := by
  unfold State.lossInUnloading
  split
  · obtain ⟨hraise, hqual, -, himbalance, hunload, hlower⟩ := h.timers
    exact h.withTimersKept ha ⟨hraise, hqual, by simp, himbalance, hunload, hlower⟩
  · exact (h.raise .contactLost).enterLowering ha

theorem sensorFaultSet (h : s.Formed) : s.sensorFaultSet.Formed := by
  unfold State.sensorFaultSet
  split
  next hp => exact (h.enterUnloading (h.awake_of_panto (by simp [hp])) none).contactLeft true
  next hp => exact h.enterLowering (h.awake_of_panto (by simp [hp]))
  all_goals exact h

theorem setInEpisodeOfHeads (h : s.Formed) : s.setInEpisodeOfHeads.Formed := by
  unfold State.setInEpisodeOfHeads
  split
  · exact h.withPanto
      { timers := h.timers.of_same rfl rfl rfl rfl rfl rfl rfl
        resting := fun hr => ⟨⟨(h.atRest hr).lowered.1, (h.atRest hr).lowered.2.1, rfl⟩, (h.atRest hr).drive⟩
        starting := h.admitsPanto.starting }
  · exact h

theorem regulate (h : s.Formed) (ha : s.Awake) : s.regulate.Formed := by
  unfold State.regulate
  split
  · exact h.withTimersKept ha (h.timers.of_same rfl rfl rfl rfl rfl rfl rfl)
  · exact h

theorem watchLoss (h : s.Formed) (hp : s.panto.state = .contact ∨ s.panto.state = .unloading) : s.watchLoss.Formed := by
  unfold State.watchLoss
  split
  · obtain ⟨hraise, hqual, -, himbalance, hunload, hlower⟩ := h.timers
    refine h.withTimersKept (h.awake_of_panto (by rcases hp with hp | hp <;> simp [hp])) ?_
    exact ⟨hraise, hqual, fun _ => hp, himbalance, hunload, hlower⟩
  · exact h

theorem watchImbalance (h : s.Formed) (hp : s.panto.state = .contact) : s.watchImbalance.Formed := by
  unfold State.watchImbalance
  split
  · obtain ⟨hraise, hqual, hloss, -, hunload, hlower⟩ := h.timers
    exact h.withTimersKept (h.awake_of_panto (by simp [hp])) ⟨hraise, hqual, hloss, fun _ => hp, hunload, hlower⟩
  · exact h

theorem watchContact (h : s.Formed) (hp : s.panto.state = .raising) : s.watchContact.Formed := by
  unfold State.watchContact
  split
  · obtain ⟨hraise, -, hloss, himbalance, hunload, hlower⟩ := h.timers
    exact h.withTimersKept (h.awake_of_panto (by simp [hp])) ⟨hraise, fun _ => hp, hloss, himbalance, hunload, hlower⟩
  · exact h

theorem setInRaising (h : s.Formed) (hp : s.panto.state = .raising) : s.setInRaising.Formed := by
  have hwatched := h.watchContact hp
  unfold State.setInRaising
  dsimp only
  split
  · exact hwatched.endRaise ((h.awake_of_panto (by simp [hp])).congr (by simp) (by simp))
  · exact hwatched

theorem setInUnloading (h : s.Formed) (hp : s.panto.state = .unloading) : s.setInUnloading.Formed := by
  have ha := h.awake_of_panto (by simp [hp])
  have hwatched := (h.regulate ha).watchLoss (.inr (by simpa using hp))
  unfold State.setInUnloading
  dsimp only
  split
  · exact hwatched.enterLowering (ha.congr (by simp) (by simp))
  · exact hwatched

theorem setInLowering (h : s.Formed) (hp : s.panto.state = .lowering) : s.setInLowering.Formed := by
  unfold State.setInLowering
  split
  · exact h.enterLowered (h.awake_of_panto (by simp [hp]))
  · exact h

theorem setInPantograph (h : s.Formed) : s.setInPantograph.Formed := by
  have hheads := h.setInEpisodeOfHeads
  unfold State.setInPantograph
  dsimp only
  split
  next => exact hheads
  next hp => exact hheads.setInRaising hp
  next hp =>
    have hregulated := hheads.regulate (hheads.awake_of_panto (by rw [hp]; simp))
    exact (hregulated.watchLoss (.inl (by simpa using hp))).watchImbalance (by simpa using hp)
  next hp => exact hheads.setInUnloading hp
  next hp => exact hheads.setInLowering hp
  next => exact hheads

/-! ### The feeder (R164 to R170) -/

/-- A ready feeder's overload state may take any form of R166 and R167. -/
theorem withOverload (h : s.Formed) (hready : s.isReady = true) (hfeeder : s.isTruck = false) {f : FeederLogic}
    (hf : overloadForm f) : ({ s with feeder := f } : State).Formed :=
  h.withFeeder ⟨hf, fun hc => by simp [hfeeder] at hc, fun hn => by simp [hready] at hn⟩

theorem calmFeeder (h : s.Formed) : s.calmFeeder.Formed :=
  h.withFeeder ⟨by simp [overloadForm, FeederLogic.powerOn], fun _ => rfl, fun _ => rfl⟩

/-- A shed is called again in SHEDDING, or as it begins (R167). -/
theorem repeatShed (h : s.Formed) (hp : s.feeder.overload = .shedding) : s.repeatShed.Formed := by
  obtain ⟨hready, hfeeder⟩ := h.feeding_of_overload (by simp [hp])
  obtain ⟨hover, hrelease, -, -⟩ := h.overload
  refine (h.callShed s.shedUnits).withOverload (by simpa [State.isReady] using hready)
    ((State.isTruck_congr (by simp)).trans hfeeder) ?_
  simpa [overloadForm, hp] using hover

theorem setInRepeat (h : s.Formed) (hp : s.feeder.overload = .shedding) : s.setInRepeat.Formed := by
  unfold State.setInRepeat
  split
  · exact h.repeatShed hp
  · exact h

theorem setInRelease (h : s.Formed) (hp : s.feeder.overload = .shedding) : s.setInRelease.Formed := by
  obtain ⟨hready, hfeeder⟩ := h.feeding_of_overload (by simp [hp])
  obtain ⟨hover, -, hrepeat, hlapsed⟩ := h.overload
  exact h.withOverload hready hfeeder ⟨hover, fun _ => hp, hrepeat, hlapsed⟩

theorem setInFeeder (h : s.Formed) (hready : s.isReady = true) (hfeeder : s.isTruck = false) : s.setInFeeder.Formed := by
  obtain ⟨hover, hrelease, hrepeat, hlapsed⟩ := h.overload
  unfold State.setInFeeder
  split
  · split
    next hp =>
      split
      · refine h.withOverload hready hfeeder ?_
        simp_all [overloadForm, State.afterMs]
      · exact h
    next hp =>
      split
      · exact h
      · refine h.withOverload hready hfeeder ?_
        simp_all [overloadForm]
    next hp =>
      refine (h.setInRepeat hp).setInRelease ?_
      unfold State.setInRepeat
      split <;> simp [State.repeatShed, hp]
  · exact h

theorem passSet (h : s.Formed) (hready : s.isReady = true) : s.passSet.Formed := by
  unfold State.passSet
  split
  · exact h.setInShareEngine.setInPantograph
  · rename_i hfeeder
    exact h.setInFeeder hready (by simpa using hfeeder)

end State.Formed
end Sys2Proof.Machine

/-! ## The form every step keeps: the configuration and the start-up -/

namespace Sys2Proof.Machine

/-! ### The configuration in range (R180) -/

/-- The value used lies in the field's range. -/
theorem BlockField.used_bounds (f : BlockField) (h : Nat.ble f.lo f.hi = true) : f.lo ≤ f.used ∧ f.used ≤ f.hi :=
  clampTo_bounds _ (Nat.le_of_ble_eq_true h)

/-- V_knee and V_collapse as corrected; every other field as taken (R180). -/
theorem acceptedConfiguration_eq (b : List Byte) : acceptedConfiguration b = { blockConfiguration b with
    vKnee := if (wordField b 19 0 4095).used ≤ (wordField b 17 0 4095).used then (wordField b 17 0 4095).used + 100
      else (wordField b 19 0 4095).used
    vCollapse := min (wordField b 21 0 4095).used (wordField b 17 0 4095).used } := by
  have hcollapse : ∀ c : Configuration, correctCollapse c = { c with vCollapse := min c.vCollapse c.vMin } := by
    intro c
    unfold correctCollapse
    split
    · rw [Nat.min_eq_right (by omega)]
    · rw [Nat.min_eq_left (by omega)]
  have hknee : ∀ c : Configuration, correctKnee c =
      { c with vKnee := if c.vKnee ≤ c.vMin then c.vMin + 100 else c.vKnee } := by
    intro c
    unfold correctKnee
    split <;> rfl
  rw [acceptedConfiguration, hcollapse, hknee]
  rfl

theorem blockAddress_ne (b : List Byte) : blockAddress b ≠ 0xFFFF := by
  have hword : blockWord b 1 ≤ 65535 := by
    have h1 := (b.getD 1 0).isLt
    have h2 := (b.getD 2 0).isLt
    unfold blockWord blockByte
    omega
  unfold blockAddress
  split
  · decide
  · rename_i hne
    intro heq
    have := congrArg BitVec.toNat heq
    rw [BitVec.toNat_ofNat, show (0xFFFF : BitVec 16).toNat = 65535 from rfl] at this
    omega

/-- V_knee as corrected lies above V_min, and within 100 of the field's range (R180). -/
theorem correctedKnee_bounds {vMin vKnee : Nat} (hmin : vMin ≤ 4095) (hknee : vKnee ≤ 4095) :
    (vMin < if vKnee ≤ vMin then vMin + 100 else vKnee) ∧ (if vKnee ≤ vMin then vMin + 100 else vKnee) ≤ 4195 := by
  split_ifs <;> omega

/-- Whatever an accepted block holds, the configuration is in range (R180). -/
theorem configForm_acceptedConfiguration (b : List Byte) : configForm (acceptedConfiguration b) := by
  have hmin := ((wordField b 17 0 4095).used_bounds rfl).2
  obtain ⟨hlt, hle⟩ := correctedKnee_bounds hmin ((wordField b 19 0 4095).used_bounds rfl).2
  rw [acceptedConfiguration_eq]
  exact ⟨⟨blockAddress_ne b, (stormField b).used_bounds rfl, (byteField b 4 5 50).used_bounds rfl,
      (wordField b 5 100 5000).used_bounds rfl⟩,
    ⟨(weightField b 0).used_bounds rfl, (weightField b 1).used_bounds rfl, (weightField b 2).used_bounds rfl,
      (weightField b 3).used_bounds rfl⟩,
    ⟨((wordField b 9 0 1023).used_bounds rfl).2, (wordField b 11 100 4095).used_bounds rfl,
      (wordField b 13 10 1000).used_bounds rfl, ((wordField b 15 0 16383).used_bounds rfl).2⟩,
    ⟨hmin, hlt, hle, min_le_right _ _, ((wordField b 23 0 4095).used_bounds rfl).2⟩,
    ⟨((wordField b 25 0 500).used_bounds rfl).2, (wordField b 27 100 5000).used_bounds rfl,
      (wordField b 29 500 10000).used_bounds rfl, (wordField b 31 500 10000).used_bounds rfl⟩,
    ⟨((wordField b 33 0 1023).used_bounds rfl).2, ((wordField b 35 0 1023).used_bounds rfl).2,
      ((wordField b 37 0 1023).used_bounds rfl).2, ((wordField b 39 0 1023).used_bounds rfl).2,
      (byteField b 41 1 100).used_bounds rfl, ((wordField b 42 0 1023).used_bounds rfl).2⟩,
    ⟨((byteField b 44 0 255).used_bounds rfl).2, ((byteField b 45 0 255).used_bounds rfl).2,
      ((byteField b 46 0 255).used_bounds rfl).2, ((byteField b 47 0 255).used_bounds rfl).2,
      ((byteField b 48 0 255).used_bounds rfl).2, (byteField b 49 1 32).used_bounds rfl⟩,
    ⟨((wordField b 50 0 4095).used_bounds rfl).2, ((wordField b 52 0 4095).used_bounds rfl).2,
      (wordField b 54 100 10000).used_bounds rfl, (wordField b 56 100 5000).used_bounds rfl,
      (wordField b 58 100 5000).used_bounds rfl, (wordField b 60 1000 30000).used_bounds rfl⟩⟩

theorem configForm_defaultConfiguration : configForm defaultConfiguration := by simp [configForm, defaultConfiguration]

/-- Whatever the load's outcome, the configuration is in range (R179, R180). -/
theorem configForm_loadOutcome (block : Option (Vector Byte 64)) : configForm (loadOutcome block).2 := by
  unfold loadOutcome
  split
  · exact configForm_defaultConfiguration
  · dsimp only
    split
    · exact configForm_defaultConfiguration
    · split
      · exact configForm_defaultConfiguration
      · exact configForm_acceptedConfiguration _

/-! ### Power-on (R181) -/

theorem State.atRest_reset : State.reset.AtRest := by constructor <;> simp [State.reset, Pantograph.powerOn, ArcMonitor.powerOn,
  ShareEngine.powerOn, LimitGenerator.powerOn]

/-- The power-on values have the form (R181). -/
theorem State.formed_powerOn (s : State) (stage : Startup) : (s.powerOn stage).Formed where
  table := by simp [tableForm, State.powerOn, State.reset]
  holds := by simp [holdForm, State.powerOn, State.reset]
  arcs := by simp [arcForm, State.powerOn, State.reset, ArcMonitor.powerOn]
  link := by simp [linkForm, State.powerOn, State.reset, CarrierLink.powerOn]
  timers := by simp [timerForm, State.powerOn, State.reset, Pantograph.powerOn]
  phase := by simp [phaseForm, State.powerOn, State.reset, ShareEngine.powerOn]
  overload := by simp [overloadForm, State.powerOn, State.reset, FeederLogic.powerOn]
  flags := by simp [flagForm, State.powerOn, State.reset, TruckPort.powerOn]
  config := configForm_defaultConfiguration
  startup := ⟨fun _ => ⟨rfl, { State.atRest_reset with }⟩, fun _ => ⟨rfl, rfl, rfl, rfl, rfl⟩⟩
  sweeps := by simp [State.powerOn, State.reset, Sweeper.powerOn]
  written := by simp [State.powerOn, State.reset, ShareEngine.powerOn]
  ownShed := by simp [State.powerOn, State.reset, ShareEngine.powerOn]
  receiver := ⟨le_rfl, Assembler.Begun.of_waiting⟩
  roles := ⟨fun _ => { State.atRest_reset with }, fun _ => rfl⟩

/-- An overload state NORMAL has no timer and no lapse (R166, R167). -/
theorem FeederLogic.eq_powerOn {f : FeederLogic} (hform : overloadForm f) (hnormal : f.overload = .normal) : f = .powerOn := by
  obtain ⟨hover, hrelease, hrepeat, hlapsed⟩ := hform
  have h1 : f.overTimer = none := by_contra fun hne => by simpa [hnormal] using hover.1 hne
  have h2 : f.releaseTimer = none := by_contra fun hne => by simpa [hnormal] using hrelease hne
  have h3 : f.repeatTimer = none := by_contra fun hne => by simpa [hnormal] using hrepeat hne
  have h4 : f.repeatLapsed = false := by_contra fun hne => by simpa [hnormal] using hlapsed (by simpa using hne)
  cases f
  simp_all [FeederLogic.powerOn]

namespace State.Formed

variable {s : State}

/-- With the load ended the part has a configuration, and everything else as the power-on left it (R181). -/
theorem loaded (h : s.Formed) (hloading : s.startup = .loading) {c : Configuration} (hc : configForm c) (r : LoadResult) (w : Sweeper)
    (hw : w.abortCount ≤ 4 ∧ w.sweepCounter < 64) (seed : BitVec 16) : ({ s with
      startup := .selfCheck, clock := 0, config := c, loadResult := r, sweeper := w
      link := { s.link with lfsr := seed, listenFrom := 0 } } : State).Formed := by
  have hstopped : s.running = false := by simp [State.running, hloading]
  obtain ⟨hpeers, hrest⟩ := h.startup.1 hstopped
  have hstarting := h.startup.2 (by simp [State.isReady, hloading])
  exact
    { h with
      table := by simp [tableForm, hpeers]
      config := hc
      startup := ⟨fun hn => by simp [State.running] at hn, fun _ => hstarting⟩
      sweeps := hw
      ownShed := fun hne => absurd hrest.offline.2.1 hne
      receiver := ⟨le_rfl, h.receiver.2⟩
      roles := ⟨fun _ => { hrest with }, fun _ => FeederLogic.eq_powerOn h.overload hstarting.2.2.2.2⟩ }

/-- The self-check over, the part is ready and its cycle timer runs (R44, R149, R181). -/
theorem checked (h : s.Formed) (w : Sweeper) (hw : w.abortCount ≤ 4 ∧ w.sweepCounter < 64) (due : Option Nat) : ({ s with
    startup := .ready, sweeper := w, share := { s.share with cycleTimer := due } } : State).Formed :=
  { h with
    startup := ⟨fun hn => by simp [State.running] at hn, fun hn => by simp [State.isReady] at hn⟩
    sweeps := hw
    roles := ⟨fun hn => { h.roles.1 hn with }, h.roles.2⟩ }

theorem firstDecisions (h : s.Formed) (hready : s.startup = .ready) : s.firstDecisions.Formed := by
  unfold State.firstDecisions
  split
  · rename_i htruck
    have ha : s.Awake := ⟨hready, htruck⟩
    have hduty := h.withTimersKept ha (p := { s.panto with holdDuty := s.config.holdStart })
      (h.timers.of_same rfl rfl rfl rfl rfl rfl rfl)
    unfold State.firstPantograph
    dsimp only
    split
    · exact hduty.withTimersKept ha (timerForm_enter _ _)
    · split
      · exact hduty.enterLowering ha
      · exact hduty
  · rename_i hfeeder
    exact h.setInFeeder (by simp [State.isReady, hready]) (by simpa using hfeeder)

/-! ### Warm reset (R182) -/

theorem warmResetShare (h : s.Formed) (hready : s.startup = .ready) : s.warmResetShare.Formed :=
  h.withShare
    { phase := by simp [phaseForm, ShareEngine.powerOn]
      written := by simp [ShareEngine.powerOn]
      ownShed := by simp [ShareEngine.powerOn]
      resting := fun _ => ⟨⟨rfl, rfl, rfl⟩, rfl, rfl⟩
      starting := fun hn => by simp [State.isReady, hready] at hn }

/-- The losses and the imbalance forgotten (R137). -/
theorem withHistoryCleared (h : s.Formed) :
    ({ s with panto := { s.panto with history := [], imbalanceEpisode := false } } : State).Formed :=
  h.withPanto
    { timers := h.timers.of_same rfl rfl rfl rfl rfl rfl rfl
      resting := fun hr => ⟨⟨(h.atRest hr).lowered.1, rfl, rfl⟩, (h.atRest hr).drive⟩
      starting := h.admitsPanto.starting }

theorem warmResetPantograph (h : s.Formed) : s.warmResetPantograph.Formed := by
  unfold State.warmResetPantograph
  dsimp only
  refine State.Formed.withHistoryCleared ?_
  split
  next hp => exact h.enterUnloading (h.awake_of_panto (by simp [hp])) none
  next hp => exact h.enterLowering (h.awake_of_panto (by simp [hp]))
  next hp =>
    obtain ⟨hraise, hqual, -, himbalance, hunload, hlower⟩ := h.timers
    exact h.withTimersKept (h.awake_of_panto (by simp [hp])) ⟨hraise, hqual, by simp, himbalance, hunload, hlower⟩
  all_goals exact h

theorem withNoArcs (h : s.Formed) (at_ : Option Nat) : ({ s with arc := { ArcMonitor.powerOn with resetAt := at_ } } : State).Formed :=
  h.withArc ⟨by simp [arcForm, ArcMonitor.powerOn], fun _ => ⟨rfl, rfl, rfl⟩, fun _ => rfl⟩

theorem withFlagsCleared (h : s.Formed) : ({ s with port := { s.port with flags := 0, fresh := 0 } } : State).Formed :=
  h.withPort (by simp [flagForm])

theorem warmReset (h : s.Formed) (hready : s.startup = .ready) : s.warmReset.Formed := by
  have hblocks := (h.warmResetLimit.warmResetShare hready).warmResetPantograph
  unfold State.warmReset
  generalize s.warmResetLimit.warmResetShare.warmResetPantograph = u at hblocks
  have htables := (hblocks.withSublist (List.nil_sublist _)).withFewerHolds (List.nil_sublist _)
  have hlink := htables.withQueue (l := u.link.warmReset) (linkForm_warmReset _) rfl rfl
  have hsweeper := hlink.withSweeper (w := u.sweeper.warmReset u.clock) ⟨Nat.zero_le _, hblocks.sweeps.2⟩
  exact (hsweeper.withNoArcs (some u.clock)).calmFeeder.withFlagsCleared

end State.Formed
end Sys2Proof.Machine

/-! ## The form every step keeps: the commands -/

namespace Sys2Proof.Machine

/-- Whatever state the result leads to has the form. -/
def FormedResult (r : Result) : Prop := ∀ u, r = .next u → u.Formed

namespace FormedResult

variable {s u : State}

theorem next (h : u.Formed) : FormedResult (.next u) := by
  rintro _ ⟨⟩
  exact h

/-- A port command keeps the form where its rule does at ready. -/
theorem port (h : s.Formed) (t : Nat) {body : State → State}
    (hbody : ∀ a : State, a.Formed → a.startup = .ready → (body a).Formed) : FormedResult (.next (onPort t s body)) := by
  refine .next ?_
  have ht := h.takenAt t
  unfold onPort
  dsimp only
  split
  next => exact ht
  next => exact ht.answer ..
  next => exact ht.answer ..
  next hready => exact hbody _ ht (by simpa using hready)

/-- A read command only fills the response buffer. -/
theorem read (h : s.Formed) (t : Nat) (st : State → Status) (data : State → List Byte) :
    FormedResult (.next (onPort t s fun a => a.answer (st a) (data a))) :=
  .port h t fun _ ha _ => ha.answer ..

/-- A port command of the truck role keeps the form where its rule does on a ready truck. -/
theorem truck (h : s.Formed) (t : Nat) {body : State → State} (hbody : ∀ a : State, a.Formed → a.Awake → (body a).Formed) :
    FormedResult (.next (onPort t s fun a => truckOnly a body)) := by
  refine .port h t fun a ha hready => ?_
  unfold truckOnly
  split
  · rename_i htruck
    exact hbody a ha ⟨hready, htruck⟩
  · exact ha.answer ..

/-- An event keeps the form where its work does under its condition. -/
theorem event (h : s.Formed) (t : Nat) {b : Bool} (hu : (s.takenAt t).Formed → b = true → u.Formed) :
    FormedResult (.next (if b then u else s.takenAt t)) := by
  refine .next ?_
  have ht := h.takenAt t
  split
  · rename_i hb
    exact hu ht hb
  · exact ht

end FormedResult

/-! ### The records an arc event leaves -/

theorem length_timeOldest (f : ArcRecord → Option Nat) (l : List ArcRecord) : (timeOldest f l).length = l.length := by
  induction l with
  | nil => rfl
  | cons r rest ih => unfold timeOldest; split <;> simp [ih]

theorem inRange_timeOldest {f : ArcRecord → Option Nat} (hf : ∀ r, ∀ d ∈ f r, d ≤ 65535) {l : List ArcRecord}
    (hl : ∀ r ∈ l, r.inRange) : ∀ r ∈ timeOldest f l, r.inRange := by
  induction l with
  | nil => simp [timeOldest]
  | cons r rest ih =>
    obtain ⟨hr, hrest⟩ := List.forall_mem_cons.1 hl
    unfold timeOldest
    split
    · exact List.forall_mem_cons.2 ⟨⟨hr.1, hr.2.1, hf r⟩, hrest⟩
    · exact List.forall_mem_cons.2 ⟨hr, ih hrest⟩

theorem inRange_newArc (now : ArcTime) : (newArc now).inRange := by simp [ArcRecord.inRange, newArc]

theorem inRange_merged {r : ArcRecord} (h : r.inRange) : r.merged.inRange := by
  obtain ⟨hlow, hhigh, hduration⟩ := h
  refine ⟨?_, ?_, hduration⟩
  all_goals simp only [ArcRecord.merged]; omega

theorem inRange_startArc (now : ArcTime) {l : List ArcRecord} (h : ∀ r ∈ l, r.inRange) : ∀ r ∈ startArc now l, r.inRange := by
  match l, h with
  | [], _ => simpa [startArc] using inRange_newArc now
  | [r], h => simpa [startArc] using ⟨h r (by simp), inRange_newArc now⟩
  | r :: q :: rest, h =>
    simp only [List.forall_mem_cons] at h
    obtain ⟨hr, hq, hrest⟩ := h
    simpa [startArc] using ⟨hr, inRange_merged hq, hrest⟩

theorem inRange_takePair {r : ArcRecord} (h : r.inRange) (current voltage : Option Code) : (r.takePair current voltage).inRange := by
  unfold ArcRecord.takePair
  split <;> exact h

theorem arcForm_start {a : ArcMonitor} (h : arcForm a) (clock : Nat) (now : ArcTime) : arcForm (a.start clock now) := by
  unfold ArcMonitor.start
  split
  · exact h
  · exact ⟨length_startArc _ _ h.1, h.2.1, inRange_startArc now h.2.2.1, h.2.2.2⟩

theorem Sweeper.restart_counts {w : Sweeper} (h : w.abortCount ≤ 4 ∧ w.sweepCounter < 64) (clock : Nat) :
    (w.restart clock).abortCount ≤ 4 ∧ (w.restart clock).sweepCounter < 64 := by
  have hmax : maxAborts = 4 := rfl
  unfold Sweeper.restart
  dsimp only
  split
  · exact h
  · exact h
  · exact h
  · split
    · exact ⟨by dsimp only at *; omega, h.2⟩
    · exact h

theorem State.arcGate_lowered {s : State} (h : s.arcGate = true) : s.panto.state ≠ .lowered := by
  intro hp
  simp [State.arcGate, hp] at h

theorem State.due_ne_none {s : State} {timer : Option Nat} (h : s.due timer = true) : timer ≠ none := by
  rintro rfl
  simp at h

/-- A character still arriving began before now (R105). -/
theorem stillArriving_le (clock : Nat) : stillArriving clock ≤ clock := by
  have hcharacter : characterTime = 260 := rfl
  unfold stillArriving
  omega

theorem Sweeper.handPair_counts (w : Sweeper) (x : HeldSample) (sample : Code) :
    (w.handPair x sample).abortCount = w.abortCount ∧ (w.handPair x sample).sweepCounter = w.sweepCounter := by
  unfold Sweeper.handPair Sweeper.keepPairEnd
  dsimp only
  split
  · split <;> exact ⟨rfl, rfl⟩
  all_goals exact ⟨rfl, rfl⟩

/-! ### The commands with work of their own -/

section
variable {s : State} (h : s.Formed)
include h

theorem execWriteDemand_formed (t : Nat) (demand : Half) (cls : Byte) : FormedResult (execWriteDemand t demand cls s) := by
  refine .port h t fun a ha hready => ?_
  dsimp only
  split
  · refine ha.answerOk.withShare { ha.admitsShare with written := ⟨?_, ha.written.2⟩ }
    exact min_le_left _ _
  · exact ha.answer ..

theorem execWriteCap_formed (t : Nat) (cap : Half) : FormedResult (execWriteCap t cap s) := by
  refine .port h t fun a ha hready => State.Formed.immediateCap ?_ _
  refine ha.answerOk.withShare { ha.admitsShare with written := ⟨ha.written.1, ?_⟩ }
  exact min_le_left _ _

/-- A flag is cleared only where its event is not fresh (R177). -/
theorem execClearEvents_formed (t : Nat) (mask : FlagSet) : FormedResult (execClearEvents t mask s) := by
  refine .port h t fun a ha _ => ha.answerOk.withPort ?_
  obtain ⟨hfresh, hhigh⟩ := (flagForm_iff _).1 ha.flags
  refine (flagForm_iff _).2 ⟨fun n hn => ?_, fun n hn => ?_⟩
  · have hset : a.port.fresh.getLsbD n = true := hn
    have hlt : n < 32 := BitVec.lt_of_getLsbD hset
    simp [hset, hfresh n hset, hlt]
  · simp [hhigh n hn]

theorem execTransmitOff_formed (t : Nat) : FormedResult (execTransmitOff t s) := by
  refine .port h t fun a ha _ => ?_
  dsimp only
  split
  · have hoffered : (if (a.answerOk.isTruck && a.answerOk.share.phase == .active) = true then
        a.answerOk.emptyPeriodic.offer .depart .depart else a.answerOk.emptyPeriodic).Formed := by
      split
      · exact ha.answerOk.emptyPeriodic.offer _ _
      · exact ha.answerOk.emptyPeriodic
    generalize (if (a.answerOk.isTruck && a.answerOk.share.phase == .active) = true then
        a.answerOk.emptyPeriodic.offer .depart .depart else a.answerOk.emptyPeriodic) = b at hoffered
    have hoff : ({ b with link := { b.link with txEnable := false } } : State).Formed :=
      hoffered.withQueue (l := { b.link with txEnable := false }) hoffered.link rfl rfl
    split
    · exact hoff.enterSilent
    · exact hoff
  · exact ha.answerOk

theorem execRaise_formed (t : Nat) (emlower : Bool) : FormedResult (execRaise t emlower s) := by
  refine .truck h t fun a ha hawake => ?_
  split
  · split
    · exact ha.answer ..
    · exact ha.answerOk.enterRaising hawake
  all_goals exact ha.answer ..

theorem execLower_formed (t : Nat) : FormedResult (execLower t s) := by
  refine .truck h t fun a ha hawake => ?_
  split
  · exact (ha.answerOk.enterUnloading hawake _).contactLeft true
  · exact ha.answerOk.enterLowering hawake
  all_goals exact ha.answer ..

theorem execClearFault_formed (t : Nat) : FormedResult (execClearFault t s) := by
  refine .truck h t fun a ha hawake => ?_
  split
  · split
    · exact ha.answer ..
    · split
      · exact ha.answerOk.enterLowered hawake
      · exact ha.answerOk.enterLowering hawake
  all_goals exact ha.answer ..

theorem execReadPeer_formed (t : Nat) (index : Byte) : FormedResult (execReadPeer t index s) := by
  refine .port h t fun a ha _ => ?_
  split
  · exact ha.answer ..
  · split <;> exact ha.answer ..

theorem execReadArc_formed (t : Nat) (index : Byte) : FormedResult (execReadArc t index s) := by
  refine .port h t fun a ha _ => ?_
  split
  · exact ha.answer ..
  · split <;> exact ha.answer ..

theorem execUnknownCommand_formed (t : Nat) (code : Byte) : FormedResult (execUnknownCommand t code s) := by
  unfold execUnknownCommand
  split
  · exact .read h t (fun _ => .unknownCommand) fun _ => []
  · exact .next (h.takenAt t)

theorem execWarmResetTaken_formed (t : Nat) : FormedResult (execWarmResetTaken t s) := by
  refine .event h t fun ht hb => ?_
  have hready : s.startup = .ready := by
    simp only [Bool.and_eq_true, State.isReady, beq_iff_eq, State.takenAt_startup] at hb
    exact hb.1
  have hcleared := ht.discardResponse.withPort
    (p := { (s.takenAt t).discardResponse.port with warmResetRequested := false }) (flagForm_congr ht.flags rfl rfl)
  exact hcleared.warmReset (by simpa using hready)

theorem execConfigurationLoadEnd_formed (block : Option (Vector Byte 64)) : FormedResult (execConfigurationLoadEnd block s) := by
  refine .next ?_
  split
  · rename_i hloading
    exact (h.loaded (by simpa using hloading) (configForm_loadOutcome block) _ { s.sweeper with conversion := .selfCheck 0 }
      h.sweeps _).raiseIf _ _
  · exact h

theorem execSelfcheckEnd_formed (t : Nat) (tests : Vector WireTest 8) (samples : Vector Code 18) :
    FormedResult (execSelfcheckEnd t tests samples s) := by
  refine .event h t fun ht hb => State.Formed.firstDecisions ?_ (by simp)
  refine State.Formed.raiseIf (State.Formed.checked ht _ ⟨?_, ?_⟩ _) _ _
  · exact ht.sweeps.1
  · exact ht.sweeps.2

theorem execCycleTick_formed (t : Nat) : FormedResult (execCycleTick t s) := by
  refine .event h t fun ht hb => ?_
  generalize s.takenAt t = a at ht hb
  have hrearmed : a.rearmCycle.Formed := ht.withShare
    { ht.admitsShare with
      starting := fun hn => ⟨(ht.startup.2 hn).1, by simp [(ht.startup.2 hn).2.1]⟩ }
  dsimp only
  split
  · refine State.Formed.takeStormCount ?_
    have hcomputing : a.rearmCycle.mode ≠ .none → a.rearmCycle.computingTick.Formed := by
      intro hmode
      rw [Ne, State.mode_eq_none_iff, not_not] at hmode
      have hawake := hrearmed.awake_of_phase (by simp [hmode.2])
      have happlied := (hrearmed.applyTarget hawake a.rearmCycle.target).offer .periodic (.demand a.rearmCycle.demandPayload)
      exact happlied.withShare
        (State.Awake.admitsShare (hawake.congr (by simp) (by simp)) happlied.phase happlied.written happlied.ownShed)
    unfold State.shareTick
    split
    next => exact hrearmed
    next hmode =>
      have hactive := ((State.mode_eq_silent_iff _).1 hmode)
      exact hrearmed.applyTarget (hrearmed.awake_of_phase (by simp [hactive])) 0
    all_goals exact hcomputing (by simp_all)
  · exact hrearmed.feederTick

theorem execListenTimerExpiry_formed (t : Nat) : FormedResult (execListenTimerExpiry t s) := by
  refine .event h t fun ht hb => ?_
  generalize s.takenAt t = a at ht hb
  have hp : a.share.phase = .listen := by simp_all
  have hnone := ht.phase.crossing_none (by simp [hp])
  exact ht.withShare ((ht.awake_of_phase (by simp [hp])).admitsShare
    (phaseForm_active rfl rfl hnone.1 hnone.2) ht.written ht.ownShed)

theorem execOverflowTimerExpiry_formed (t : Nat) : FormedResult (execOverflowTimerExpiry t s) := by
  refine .event h t fun ht hb => ?_
  exact ht.withShare { ht.admitsShare with
    resting := fun hr => ⟨(ht.atRest hr).offline, rfl, (ht.atRest hr).computed.2⟩ }

theorem execCrossingTimerExpiry_formed (t : Nat) : FormedResult (execCrossingTimerExpiry t s) := by
  refine .event h t fun ht hb => ?_
  generalize s.takenAt t = a at ht hb
  have hp : a.share.phase = .crossing := by simp_all
  exact (ht.withListen (ht.awake_of_phase (by simp [hp])) (by simp [hp]) (a.clock + 1000 * a.config.listenTime)).raise .crossTimeout

theorem execCollapseTimerExpiry_formed (t : Nat) : FormedResult (execCollapseTimerExpiry t s) := by
  refine .event h t fun ht hb => ?_
  generalize s.takenAt t = a at ht hb
  have htimer := State.due_ne_none hb
  have hawake := ht.awake_of_collapse htimer
  have hvalid : validAddress a.config.address := ⟨ht.ownShed htimer, ht.config.1.1⟩
  have hepisode := ht.withNoCollapse.withEpisode hawake.not_resting true
  refine ((hepisode.offer .shed _).takeShed ?_ ?_ _ 2).raise .shedSent
  · simpa [State.running] using hawake.running
  · simpa using hvalid

theorem execHoldExpiry_formed (t : Nat) : FormedResult (execHoldExpiry t s) := by
  have ht := h.takenAt t
  refine .next ?_
  split
  · exact ht
  next first rest hholds =>
    split
    · exact ht.withFewerHolds (hholds ▸ List.sublist_cons_self first rest)
    · exact ht

theorem execEntryBecomesStale_formed (t : Nat) (address : Address) : FormedResult (execEntryBecomesStale t address s) := by
  refine .next ((h.takenAt t).withMarked (fun p => ?_) fun p hp => ?_)
  · split <;> rfl
  · split <;> exact hp

theorem execReceiveGapTimeout_formed (heard : Heard) : FormedResult (execReceiveGapTimeout heard s) := by
  have ht := (h.takenAt heard.t).hear heard.characters
  refine .next ?_
  split
  · exact ht.withLink ht.link ⟨ht.receiver.1, Assembler.Begun.of_waiting⟩
  · exact ht

/-- A transmitter that finds its slot empty selects again (R111). -/
theorem State.Formed.select : ({ s with link := s.link.select s.clock } : State).Formed :=
  h.withQueue (((linkForm_iff _).1 h.link).1.linkForm_select _) (by simp) (by simp)

theorem State.Formed.withListenFrom {clock : Nat} (hc : clock ≤ s.clock) :
    ({ s with link := { s.link with listenFrom := clock } } : State).Formed :=
  h.withLink h.link ⟨hc, h.receiver.2⟩

theorem execFrameDue_formed (t : Nat) (carrier : Bool) : FormedResult (execFrameDue t carrier s) := by
  have ht := h.takenAt t
  refine .next ?_
  split
  next k due hwaiting =>
    split
    · split
      next q hslot =>
        split
        · exact ht.deferFrame hslot hwaiting
        · exact ht.startSending k q
      next => exact ht.select
    · exact ht
  all_goals exact ht

theorem execTransmissionEnd_formed (t : Nat) : FormedResult (execTransmissionEnd t s) := by
  have ht := h.takenAt t
  refine .next ?_
  split
  · split
    · exact ht.select.withListenFrom (stillArriving_le (s.takenAt t).clock)
    · exact ht
  all_goals exact ht

theorem execSweepComplete_formed (t : Nat) (samples : Vector Code 18) : FormedResult (execSweepComplete t samples s) := by
  have ht := h.takenAt t
  refine .next ?_
  split
  · split
    · rename_i hdue
      have hready : (s.takenAt t).isReady = true := by simp_all
      refine State.Formed.passSet (ht.withSweeper ⟨?_, ?_⟩) (by simpa [State.isReady] using hready)
      · exact Nat.zero_le _
      · exact Nat.mod_lt _ (by decide)
    · exact ht
  all_goals exact ht

theorem State.Formed.openedOnTruck (degradedBefore faultBefore : Bool) : (s.openedOnTruck degradedBefore faultBefore).Formed := by
  have hraised := h.raise .sensorOpen
  unfold State.openedOnTruck
  dsimp only
  split
  · split
    · exact hraised.floorOnset.sensorFaultSet
    · exact hraised.floorOnset
  · split
    · exact hraised.sensorFaultSet
    · exact hraised

theorem execOpenWireTestComplete_formed (t : Nat) (test : WireTest) : FormedResult (execOpenWireTestComplete t test s) := by
  have ht := h.takenAt t
  refine .next ?_
  split
  · split
    · have hfinished := ht.withSweeper (w := (s.takenAt t).sweeper.finishTest (findsOpen test) (s.takenAt t).clock) ht.sweeps
      dsimp only
      split
      · split
        · exact hfinished.openedOnTruck _ _
        · unfold State.openedOnFeeder
          split
          · exact (hfinished.raise _).calmFeeder
          · exact hfinished
      · exact hfinished
    · exact ht
  all_goals exact ht

theorem execMeasurementPairHanded_formed (t : Nat) (sample : Code) : FormedResult (execMeasurementPairHanded t sample s) := by
  have ht := h.takenAt t
  refine .next ?_
  split
  next x _ =>
    split
    · obtain ⟨habort, hcounter⟩ := Sweeper.handPair_counts (s.takenAt t).sweeper x sample
      refine State.Formed.changeArcs (ht.withSweeper ⟨habort ▸ ht.sweeps.1, hcounter ▸ ht.sweeps.2⟩) (by simp) fun r hr => ?_
      obtain ⟨q, hq, rfl⟩ := List.mem_map.1 hr
      exact inRange_takePair (ht.arcs.2.2.1 q hq) _ _
    · exact ht
  next => exact ht

theorem execChannel0SampleHeld_formed (t : Nat) (sample : Code) : FormedResult (execChannel0SampleHeld t sample s) := by
  have ht := h.takenAt t
  refine .next ?_
  split
  · dsimp only
    split
    · exact ht.withSweeper ht.sweeps
    · exact ht
  · exact ht

theorem execArcStart_formed (t : Nat) : FormedResult (execArcStart t s) := by
  refine .event h t fun ht hb => ?_
  generalize s.takenAt t = a at ht hb
  have hawake := ht.awake_of_panto (State.arcGate_lowered hb)
  exact (ht.withArc (hawake.admitsArc (arcForm_start ht.arcs a.clock a.arcNow))).withSweeper
    (Sweeper.restart_counts ht.sweeps a.clock)

theorem execArcEnd_formed (t : Nat) : FormedResult (execArcEnd t s) := by
  refine .event h t fun ht _ => ht.changeArcs (length_timeOldest _ _) (inRange_timeOldest (fun r d hd => ?_) ht.arcs.2.2.1)
  rw [Option.mem_some_iff] at hd
  exact hd ▸ min_le_left _ _

theorem execArcSaturation_formed (t : Nat) : FormedResult (execArcSaturation t s) := by
  have ht := h.takenAt t
  refine .next (ht.changeArcs (length_timeOldest _ _) (inRange_timeOldest (fun r d hd => ?_) ht.arcs.2.2.1))
  split at hd
  · exact (Option.mem_some_iff.1 hd) ▸ le_rfl
  · simp at hd

theorem execEmlowerNFall_formed (t : Nat) : FormedResult (execEmlowerNFall t s) := by
  refine .event h t fun ht hb => ?_
  generalize s.takenAt t = a at ht hb
  have hraised := ht.raise .emergencyLower
  have hlowering := fun hne : a.panto.state ≠ .lowered => hraised.enterLowering (ht.awake_of_panto hne)
  split
  next hp => exact hlowering (by simp [hp])
  next hp => exact (hlowering (by simp [hp])).contactLeft true
  next hp => exact hlowering (by simp [hp])
  all_goals exact ht

theorem execContactQualificationExpiry_formed (t : Nat) : FormedResult (execContactQualificationExpiry t s) := by
  refine .event h t fun ht hb => ?_
  generalize s.takenAt t = a at ht hb
  have hp : a.panto.state = .raising := by simp_all
  have hawake := ht.awake_of_panto (by simp [hp])
  have hcontact := ht.withTimersKept hawake
    (p := { a.panto.enter .contact with holdDuty := holdBand a.config.holdMin a.config.holdMax a.config.holdStart })
    (timerForm_enter a.panto .contact)
  exact (hcontact.raise .contactMade).contactEntered hawake

theorem execRaiseTimerExpiry_formed (t : Nat) : FormedResult (execRaiseTimerExpiry t s) := by
  refine .event h t fun ht hb => ht.endRaise (ht.awake_of_panto ?_)
  simp_all

theorem execLossTimerExpiry_formed (t : Nat) : FormedResult (execLossTimerExpiry t s) := by
  refine .event h t fun ht _ => ?_
  generalize s.takenAt t = a at ht
  split
  next hp => exact ht.contactLoss (ht.awake_of_panto (by simp [hp]))
  next hp => exact ht.lossInUnloading (ht.awake_of_panto (by simp [hp]))
  all_goals exact ht

theorem execImbalanceTimerExpiry_formed (t : Nat) : FormedResult (execImbalanceTimerExpiry t s) := by
  refine .event h t fun ht hb => ?_
  generalize s.takenAt t = a at ht hb
  have hp : a.panto.state = .contact := by simp_all
  obtain ⟨hraise, hqual, hloss, -, hunload, hlower⟩ := ht.timers
  have hstopped := ht.withTimersKept (ht.awake_of_panto (by simp [hp]))
    (p := { a.panto with imbalanceTimer := none, imbalanceEpisode := true })
    ⟨hraise, hqual, hloss, fun _ => hp, hunload, hlower⟩
  exact hstopped.raiseIf _ _

theorem execUnloadTimerExpiry_formed (t : Nat) : FormedResult (execUnloadTimerExpiry t s) := by
  refine .event h t fun ht hb => (ht.raise .unloadTimeout).enterLowering (ht.awake_of_panto ?_)
  simp_all

theorem execLowerTimerExpiry_formed (t : Nat) : FormedResult (execLowerTimerExpiry t s) := by
  refine .event h t fun ht hb => (ht.raise .actuatorFault).withTimersKept (ht.awake_of_panto ?_) (timerForm_enter _ _)
  simp_all

theorem execOverTimerExpiry_formed (t : Nat) : FormedResult (execOverTimerExpiry t s) := by
  refine .event h t fun ht hb => ?_
  generalize s.takenAt t = a at ht hb
  have hp : a.feeder.overload = .over := by simp_all
  obtain ⟨hready, hfeeder⟩ := ht.feeding_of_overload (by simp [hp])
  have hshedding := ht.withOverload hready hfeeder (f := { a.feeder with overload := .shedding, overTimer := none })
    (by simp [overloadForm])
  exact (hshedding.repeatShed rfl).raise .feederOverload

theorem execRepeatTimerExpiry_formed (t : Nat) : FormedResult (execRepeatTimerExpiry t s) := by
  refine .event h t fun ht hb => ?_
  generalize s.takenAt t = a at ht hb
  have hp : a.feeder.overload = .shedding := by simp_all
  obtain ⟨hready, hfeeder⟩ := ht.feeding_of_overload (by simp [hp])
  obtain ⟨hover, hrelease, -, -⟩ := ht.overload
  split
  · exact ht.repeatShed hp
  · exact ht.withOverload hready hfeeder ⟨hover, hrelease, by simp, fun _ => hp⟩

theorem execReleaseTimerExpiry_formed (t : Nat) : FormedResult (execReleaseTimerExpiry t s) :=
  .event h t fun ht _ => (ht.callShed 0).calmFeeder

theorem execPeriodBoundary_formed (t : Nat) : FormedResult (execPeriodBoundary t s) := by
  refine .event h t fun ht hb => ?_
  generalize s.takenAt t = a at ht hb
  dsimp only
  split
  · rename_i hstrobes
    have hresting : ¬ a.Resting := fun hr => by simp [ht.boundaryStrobes_of_resting hr] at hstrobes
    exact ht.beginLimitPeriod.limit_of_not_resting hresting _
  · exact ht.beginLimitPeriod

theorem execLimitPulseEnd_formed (t : Nat) : FormedResult (execLimitPulseEnd t s) := by
  refine .event h t fun ht _ => ht.withLim fun hr => ?_
  obtain ⟨hlimit, hmark, -, hlstb⟩ := ht.lim_atRest hr
  exact ⟨hlimit, hmark, rfl, hlstb⟩

theorem execLstbPulseEnd_formed (t : Nat) : FormedResult (execLstbPulseEnd t s) := by
  refine .event h t fun ht _ => ht.withLim fun hr => ?_
  obtain ⟨hlimit, hmark, hout, -⟩ := ht.lim_atRest hr
  exact ⟨hlimit, hmark, hout, rfl⟩

theorem execActuatorPeriodBoundary_formed (t : Nat) : FormedResult (execActuatorPeriodBoundary t s) := by
  refine .event h t fun ht hb => ?_
  generalize s.takenAt t = a at ht hb
  have hrun : a.running = true := by simp_all
  refine ht.withPanto ⟨ht.timers.of_same rfl rfl rfl rfl rfl rfl rfl, fun hr => ⟨(ht.atRest hr).lowered, ?_⟩, ht.admitsPanto.starting⟩
  rcases hr with hstopped | hfeeder
  · simp [hrun] at hstopped
  · simp [hfeeder]

theorem execActuatorPulseEnd_formed (t : Nat) : FormedResult (execActuatorPulseEnd t s) := by
  refine .event h t fun ht _ => ht.withPanto
    ⟨ht.timers.of_same rfl rfl rfl rfl rfl rfl rfl, fun hr => ⟨(ht.atRest hr).lowered, ?_⟩, ht.admitsPanto.starting⟩
  obtain ⟨hduty, hdir, -⟩ := (ht.atRest hr).drive
  exact ⟨hduty, hdir, rfl⟩

end

/-! ### Every command, and every step -/

theorem State.Formed.exec {s : State} (h : s.Formed) (c : Instr) : FormedResult (exec c s) := by
  cases c with
  | readStatus t => exact .port h t fun a ha _ => ha.answer ..
  | readEvents t => exact .port h t fun a ha _ => (ha.answer _ _).withPort (by simpa [flagForm] using ha.flags.2)
  | clearEvents t mask => exact execClearEvents_formed h t mask
  | writeEventMask t mask => exact .port h t fun a ha _ => ha.answerOk.withPort (flagForm_congr ha.flags rfl rfl)
  | writeDemand t demand cls => exact execWriteDemand_formed h t demand cls
  | writeCap t cap => exact execWriteCap_formed h t cap
  | sectionAhead t => exact .port h t fun a ha _ => ha.answerOk.requestCrossing
  | transmitOn t => exact .port h t fun a ha _ =>
      ha.answerOk.withQueue (l := { a.link with txEnable := true }) ha.link rfl rfl
  | transmitOff t => exact execTransmitOff_formed h t
  | raise t emlower => exact execRaise_formed h t emlower
  | lower t => exact execLower_formed h t
  | clearFault t => exact execClearFault_formed h t
  | readPeer t index => exact execReadPeer_formed h t index
  | readBudget t => exact .port h t fun a ha _ => ha.answer ..
  | readHolds t => exact .port h t fun a ha _ => ha.answer ..
  | readArc t index => exact execReadArc_formed h t index
  | readMeasurements t => exact .port h t fun a ha _ => ha.answer ..
  | readConfig t => exact .port h t fun a ha _ => ha.answer ..
  | readIdentity t => exact .port h t fun a ha _ => ha.answer ..
  | warmReset t => exact .port h t fun a ha _ => ha.answerOk.withPort (flagForm_congr ha.flags rfl rfl)
  | unknownCommand t code => exact execUnknownCommand_formed h t code
  | transactionAbandoned t bytes => exact .next (h.takenAt t).discardResponse
  | warmResetTaken t => exact execWarmResetTaken_formed h t
  | warmNFall t => exact .event h t fun ht hb => ht.warmReset (by simpa [State.isReady] using hb)
  | powerOnReset => exact .next (s.formed_powerOn _)
  | resetNRelease => exact .next (by split; exacts [s.formed_powerOn _, h])
  | configurationLoadEnd block => exact execConfigurationLoadEnd_formed h block
  | selfcheckEnd t tests samples => exact execSelfcheckEnd_formed h t tests samples
  | cycleTick t => exact execCycleTick_formed h t
  | listenTimerExpiry t => exact execListenTimerExpiry_formed h t
  | overflowTimerExpiry t => exact execOverflowTimerExpiry_formed h t
  | crossingTimerExpiry t => exact execCrossingTimerExpiry_formed h t
  | collapseTimerExpiry t => exact execCollapseTimerExpiry_formed h t
  | holdExpiry t => exact execHoldExpiry_formed h t
  | entryBecomesStale t address => exact execEntryBecomesStale_formed h t address
  | entryRemovedByAge t address => exact .next ((h.takenAt t).withSublist List.filter_sublist)
  | demandReceived t source payload line => exact .next ((h.takenAt t).hear _)
  | supplyReceived t source payload line => exact .next ((h.takenAt t).hear _)
  | shedReceived t source payload line => exact .next ((h.takenAt t).hear _)
  | departReceived t source line => exact .next ((h.takenAt t).hear _)
  | receiveGapTimeout heard => exact execReceiveGapTimeout_formed h heard
  | framingError heard => exact .next ((h.takenAt _).hear _)
  | headerTestFailed t characters => exact .next ((h.takenAt t).hear _)
  | frameDue t carrier => exact execFrameDue_formed h t carrier
  | transmissionEnd t => exact execTransmissionEnd_formed h t
  | sweepComplete t samples => exact execSweepComplete_formed h t samples
  | openWireTestComplete t test => exact execOpenWireTestComplete_formed h t test
  | measurementPairHanded t sample => exact execMeasurementPairHanded_formed h t sample
  | channel0SampleHeld t sample => exact execChannel0SampleHeld_formed h t sample
  | arcStart t => exact execArcStart_formed h t
  | arcEnd t => exact execArcEnd_formed h t
  | arcSaturation t => exact execArcSaturation_formed h t
  | sectAheadFall t => exact .event h t fun ht _ => ht.requestCrossing
  | emlowerNFall t => exact execEmlowerNFall_formed h t
  | contactQualificationExpiry t => exact execContactQualificationExpiry_formed h t
  | raiseTimerExpiry t => exact execRaiseTimerExpiry_formed h t
  | lossTimerExpiry t => exact execLossTimerExpiry_formed h t
  | imbalanceTimerExpiry t => exact execImbalanceTimerExpiry_formed h t
  | unloadTimerExpiry t => exact execUnloadTimerExpiry_formed h t
  | lowerTimerExpiry t => exact execLowerTimerExpiry_formed h t
  | overTimerExpiry t => exact execOverTimerExpiry_formed h t
  | repeatTimerExpiry t => exact execRepeatTimerExpiry_formed h t
  | releaseTimerExpiry t => exact execReleaseTimerExpiry_formed h t
  | periodBoundary t => exact execPeriodBoundary_formed h t
  | limitPulseEnd t => exact execLimitPulseEnd_formed h t
  | lstbPulseEnd t => exact execLstbPulseEnd_formed h t
  | actuatorPeriodBoundary t => exact execActuatorPeriodBoundary_formed h t
  | actuatorPulseEnd t => exact execActuatorPulseEnd_formed h t

/-- Time passing changes the clock and the queue alone. -/
theorem State.Formed.idle {s : State} (h : s.Formed) : s.idle.Formed := by
  unfold State.idle
  split
  · exact h.later (Nat.le_succ _)
  · exact h

/-- Settles O3: command by command, block by block. -/
theorem formIsKeptByEveryStep : Obligations.FormIsKeptByEveryStep := by
  intro s u h hstep
  unfold step at hstep
  split at hstep
  · injection hstep with hu
    exact hu ▸ h.idle
  · exact (h.withPending _).exec _ u hstep

end Sys2Proof.Machine

/-! ## The share computation: the walk over the sharers, the budget spent, the target's caps -/

namespace Sys2Proof.Machine

/-! ### The order of stage 5b, whatever the addresses (R15) -/

/-- Inserting a sharer into a list whose ratios rise keeps them rising. -/
theorem insertSharer_pairwise_rank_le {i : Sharer} {l : List Sharer} (hi : 1 ≤ i.weight) (hl : ∀ j ∈ l, 1 ≤ j.weight)
    (horder : l.Pairwise fun j k => j.rank ≤ k.rank) : (insertSharer i l).Pairwise fun j k => j.rank ≤ k.rank := by
  induction l with
  | nil => simp [insertSharer]
  | cons j rest ih =>
    obtain ⟨hj, hrest⟩ := List.forall_mem_cons.1 hl
    obtain ⟨hjrest, hrestOrder⟩ := List.pairwise_cons.1 horder
    have hbefore := Sharer.before_iff_rank_lt hi hj
    rw [insertSharer]
    split
    case isTrue hplace =>
      have hij : i.rank ≤ j.rank := (hbefore.1 hplace).le
      exact List.pairwise_cons.2 ⟨List.forall_mem_cons.2 ⟨hij, fun k hk => hij.trans (hjrest k hk)⟩, horder⟩
    case isFalse hplace =>
      have hji : j.rank ≤ i.rank := not_lt.1 fun hlt => hplace (hbefore.2 hlt)
      refine List.pairwise_cons.2 ⟨fun k hk => ?_, ih hrest hrestOrder⟩
      exact List.forall_mem_cons (p := fun k => j.rank ≤ k.rank).2 ⟨hji, hjrest⟩ k ((insertSharer_perm i rest).mem_iff.1 hk)

theorem orderSharers_pairwise_rank_le {l : List Sharer} (hweight : ∀ i ∈ l, 1 ≤ i.weight) :
    (orderSharers l).Pairwise fun i j => i.rank ≤ j.rank := by
  induction l with
  | nil => exact .nil
  | cons i rest ih =>
    obtain ⟨hi, hrest⟩ := List.forall_mem_cons.1 hweight
    exact insertSharer_pairwise_rank_le hi (fun j hj => hrest j ((orderSharers_perm rest).mem_iff.1 hj)) (ih hrest)

/-! ### The final split (R17) -/

theorem weightSum_cons (i : Sharer) (l : List Sharer) : weightSum (i :: l) = i.weight + weightSum l := rfl

theorem weightSum_pos {l : List Sharer} (hweight : ∀ i ∈ l, 1 ≤ i.weight) (hne : l ≠ []) : 0 < weightSum l := by
  obtain ⟨i, rest, rfl⟩ := List.exists_cons_of_ne_nil hne
  have hi := hweight i List.mem_cons_self
  rw [weightSum_cons]
  omega

/-- The residual split by weight over everyone left loses less than 1 A a sharer. -/
theorem sum_splitPart_bounds {l : List Sharer} (hweight : ∀ i ∈ l, 1 ≤ i.weight) (hne : l ≠ []) (e : Nat) :
    (l.map (splitPart e (weightSum l))).sum ≤ e ∧ e < (l.map (splitPart e (weightSum l))).sum + l.length := by
  have hW := weightSum_pos hweight hne
  have hlength := List.length_pos_of_ne_nil hne
  have hsum : (l.map fun i => e * i.weight).sum = weightSum l * e := by
    rw [List.sum_map_mul_left, mul_comm]
    rfl
  have hparts : ((l.map fun i => e * i.weight).map (· / weightSum l)) = l.map (splitPart e (weightSum l)) := by
    simp [splitPart, Function.comp_def]
  obtain ⟨hle, hge⟩ := sum_map_div_bounds _ hW (l.map fun i => e * i.weight)
  rw [hparts, hsum] at hle hge
  rw [List.length_map] at hge
  exact ⟨Nat.le_of_mul_le_mul_left hle hW, Nat.lt_of_mul_lt_mul_left (a := weightSum l) (by omega)⟩

theorem allocated_finalSplit (e w : Nat) (l : List Sharer) :
    allocated (finalSplit e w l) = securedSum l + (l.map (splitPart e w)).sum := by
  simp [allocated, finalSplit, securedSum, List.sum_map_add, Function.comp_def]

/-! ### The walk (R16) -/

/-- The residual E after the first `n` sharers are settled. -/
def residualAfter (e : Nat) (l : List Sharer) (n : Nat) : Nat := e - ((l.take n).map Sharer.excess).sum

/-- The weight sum W of the sharers from place `n` on. -/
def weightsFrom (l : List Sharer) (n : Nat) : Nat := weightSum (l.drop n)

/-- A sharer settled at its demand. -/
def Sharer.settled (i : Sharer) : Portion := { sharer := i, amount := i.secured + i.excess }

/-- The walk over `l` with the residual `e` stops at place `k`: it is the first whose sharer fails the test of R16. -/
structure WalkStops (e : Nat) (l : List Sharer) (k : Nat) : Prop where
  place   : k ≤ l.length
  settled : ∀ n i, n < k → l[n]? = some i →
    i.excess * weightsFrom l n ≤ residualAfter e l n * i.weight ∧ i.excess ≤ residualAfter e l n
  fails   : ∀ i, l[k]? = some i → residualAfter e l k * i.weight < i.excess * weightsFrom l k

theorem residualAfter_cons (e : Nat) (i : Sharer) (l : List Sharer) (n : Nat) :
    residualAfter e (i :: l) (n + 1) = residualAfter (e - i.excess) l n := by
  simp [residualAfter, Nat.sub_sub]

theorem weightsFrom_cons (i : Sharer) (l : List Sharer) (n : Nat) : weightsFrom (i :: l) (n + 1) = weightsFrom l n := rfl

/-- A sharer that passes the test has an excess within the residual, its weight being part of the weight sum. -/
theorem excess_le_of_test {e w : Nat} {i : Sharer} (hi : 1 ≤ i.weight) (hw : i.weight ≤ w)
    (htest : i.excess * w ≤ e * i.weight) : i.excess ≤ e :=
  Nat.le_of_mul_le_mul_right ((Nat.mul_le_mul_left _ hw).trans htest) hi

/-- One more sharer settled before a walk that stops at `k`. -/
theorem WalkStops.cons {e k : Nat} {i : Sharer} {l : List Sharer} (h : WalkStops (e - i.excess) l k) (hi : 1 ≤ i.weight)
    (htest : i.excess * weightSum (i :: l) ≤ e * i.weight) : WalkStops e (i :: l) (k + 1) where
  place := Nat.succ_le_succ h.place
  settled n j hn hj := by
    cases n with
    | zero =>
      obtain rfl : i = j := by simpa using hj
      exact ⟨htest, excess_le_of_test hi (Nat.le_add_right _ _) htest⟩
    | succ n =>
      rw [residualAfter_cons, weightsFrom_cons]
      exact h.settled n j (Nat.lt_of_succ_lt_succ hn) (by simpa using hj)
  fails j hj := by
    rw [residualAfter_cons, weightsFrom_cons]
    exact h.fails j (by simpa using hj)

/-- R16 to R18: the walk settles the sharers before its stop, and splits what is left of the residual over the others. -/
theorem waterFill_eq_of_walk {l : List Sharer} (hweight : ∀ i ∈ l, 1 ≤ i.weight) (e : Nat) : ∃ k, WalkStops e l k ∧
    waterFill l e (weightSum l) =
      ((l.take k).map Sharer.settled ++ finalSplit (residualAfter e l k) (weightsFrom l k) (l.drop k),
        residualAfter e l k - ((l.drop k).map (splitPart (residualAfter e l k) (weightsFrom l k))).sum) := by
  induction l generalizing e with
  | nil =>
    exact ⟨0, ⟨le_rfl, fun n i hn => absurd hn (Nat.not_lt_zero n), by simp⟩,
      by simp [waterFill, finalSplit, residualAfter]⟩
  | cons i rest ih =>
    obtain ⟨hi, hrest⟩ := List.forall_mem_cons.1 hweight
    by_cases htest : i.excess * weightSum (i :: rest) ≤ e * i.weight
    · obtain ⟨k, hstops, heq⟩ := ih hrest (e - i.excess)
      refine ⟨k + 1, hstops.cons hi htest, ?_⟩
      have hweights : weightSum (i :: rest) - i.weight = weightSum rest := by
        rw [weightSum_cons]
        omega
      rw [waterFill, if_pos htest, hweights, heq, residualAfter_cons, weightsFrom_cons]
      rfl
    · refine ⟨0, ⟨Nat.zero_le _, fun n j hn => absurd hn (Nat.not_lt_zero n), fun j hj => ?_⟩, ?_⟩
      · obtain rfl : i = j := by simpa using hj
        exact Nat.lt_of_not_le htest
      · rw [waterFill, if_neg htest]
        rfl

/-- The walk spends the secured floors and the residual, or leaves it unallocated; and it leaves less than 1 A a sharer where it
could not settle everyone. -/
theorem waterFill_spends {l : List Sharer} (hweight : ∀ i ∈ l, 1 ≤ i.weight) (e : Nat) :
    allocated (waterFill l e (weightSum l)).1 + (waterFill l e (weightSum l)).2 = securedSum l + e ∧
    ((∃ p ∈ (waterFill l e (weightSum l)).1, p.amount < p.sharer.demand) →
      (waterFill l e (weightSum l)).2 < l.length) := by
  induction l generalizing e with
  | nil => simp [waterFill, allocated, securedSum]
  | cons i rest ih =>
    obtain ⟨hi, hrest⟩ := List.forall_mem_cons.1 hweight
    by_cases htest : i.excess * weightSum (i :: rest) ≤ e * i.weight
    · obtain ⟨hsum, hleft⟩ := ih hrest (e - i.excess)
      have hle := excess_le_of_test hi (Nat.le_add_right _ _ : i.weight ≤ weightSum (i :: rest)) htest
      have hweights : weightSum (i :: rest) - i.weight = weightSum rest := by
        rw [weightSum_cons]
        omega
      rw [waterFill, if_pos htest, hweights]
      refine ⟨?_, ?_⟩
      · simp only [allocated, securedSum, List.map_cons, List.sum_cons] at hsum ⊢
        omega
      · rintro ⟨p, hp, hlt⟩
        rcases List.mem_cons.1 hp with rfl | hp
        · exact absurd i.secured_add_excess hlt.ne
        · exact (hleft ⟨p, hp, hlt⟩).trans (Nat.lt_succ_self _)
    · obtain ⟨hle, hlt⟩ := sum_splitPart_bounds hweight (List.cons_ne_nil i rest) e
      rw [waterFill, if_neg htest]
      refine ⟨?_, fun _ => ?_⟩
      · rw [allocated_finalSplit]
        omega
      · dsimp only
        omega

/-- Over sharers whose ratios rise, everyone is allocated its secured floor at least and its demand at most. -/
theorem amount_bounds_of_mem_waterFill {l : List Sharer} (hweight : ∀ i ∈ l, 1 ≤ i.weight)
    (horder : l.Pairwise fun i j => i.rank ≤ j.rank) (e w : Nat) :
    ∀ p ∈ (waterFill l e w).1, p.sharer.secured ≤ p.amount ∧ p.amount ≤ p.sharer.demand := by
  induction l generalizing e w with
  | nil => nofun
  | cons i rest ih =>
    obtain ⟨hi, hrest⟩ := List.forall_mem_cons.1 hweight
    obtain ⟨hbelow, hrestOrder⟩ := List.pairwise_cons.1 horder
    intro p hp
    rw [waterFill] at hp
    split at hp
    case isTrue hfill =>
      rcases List.mem_cons.1 hp with rfl | hp
      · exact ⟨Nat.le_add_right _ _, i.secured_add_excess.le⟩
      · exact ih hrest hrestOrder _ _ p hp
    case isFalse hstop =>
      obtain ⟨j, hj, rfl⟩ := List.mem_map.1 hp
      have hrank : i.rank ≤ j.rank := List.forall_mem_cons (p := fun j => i.rank ≤ j.rank).2 ⟨le_rfl, hbelow⟩ j hj
      have hpart : splitPart e w j ≤ j.excess := splitPart_le_excess hi (hweight j hj) hrank (Nat.le_of_not_le hstop)
      have hsum := j.secured_add_excess
      exact ⟨Nat.le_add_right _ _, by dsimp only; omega⟩

theorem sharers_waterFill (l : List Sharer) (e w : Nat) : (waterFill l e w).1.map (·.sharer) = l := by
  induction l generalizing e w with
  | nil => rfl
  | cons i rest ih =>
    rw [waterFill]
    split
    · simp [ih]
    · simp [finalSplit, Function.comp_def]

theorem divideBudget_of_le {budget : Nat} {l : List Sharer} (h : securedSum l ≤ budget) :
    divideBudget budget l =
      { stage := 2
        portions := (waterFill (orderSharers l) (budget - securedSum l) (weightSum (orderSharers l))).1
        unallocated := (waterFill (orderSharers l) (budget - securedSum l) (weightSum (orderSharers l))).2 } := by
  have hweights : weightSum (orderSharers l) = weightSum l := ((orderSharers_perm l).map _).sum_eq
  rw [divideBudget, if_neg (Nat.not_lt.2 h), hweights]

theorem securedSum_orderSharers (l : List Sharer) : securedSum (orderSharers l) = securedSum l :=
  ((orderSharers_perm l).map _).sum_eq

theorem weight_pos_of_mem_orderSharers {l : List Sharer} (hweight : ∀ i ∈ l, 1 ≤ i.weight) : ∀ i ∈ orderSharers l, 1 ≤ i.weight :=
  fun i hi => hweight i ((orderSharers_perm l).mem_iff.1 hi)

/-- Settles O13: by the walk's own recursion, its stop, its spending and its bounds. -/
theorem waterFillSpendsTheBudgetOnDemands : Obligations.WaterFillSpendsTheBudgetOnDemands := by
  intro budget l hbudget hweight
  have hordered := weight_pos_of_mem_orderSharers hweight
  have hlength : (orderSharers l).length = l.length := (orderSharers_perm l).length_eq
  obtain ⟨hsum, hleft⟩ := waterFill_spends hordered (budget - securedSum l)
  rw [securedSum_orderSharers] at hsum
  rw [hlength] at hleft
  dsimp only
  rw [divideBudget_of_le hbudget]
  refine ⟨rfl, ?_, ?_, amount_bounds_of_mem_waterFill hordered (orderSharers_pairwise_rank_le hweight) _ _, ?_, hleft⟩
  · obtain ⟨k, hstops, heq⟩ := waterFill_eq_of_walk hordered (budget - securedSum l)
    refine ⟨k, hstops.place, hstops.settled, hstops.fails, ?_, ?_⟩
    · rw [heq]
      refine congrArg₂ (· ++ ·) (List.map_congr_left fun i _ => ?_) rfl
      rw [Sharer.settled, i.secured_add_excess]
    · rw [heq]
      rfl
  · rw [sharers_waterFill]
    exact orderSharers_perm l
  · dsimp only
    omega

/-! ### Every computation within the budget and the caps (R23) -/

theorem State.budget_le (s : State) : s.budget ≤ 16383 := min_le_left _ _

/-- Of a division, every part is a sharer's and at most its demand, and all are within the budget. -/
theorem divideBudget_within {l : List Sharer} (hweight : ∀ i ∈ l, 1 ≤ i.weight) (budget : Nat) :
    (∀ p ∈ (divideBudget budget l).portions, p.sharer ∈ l ∧ p.amount ≤ p.sharer.demand) ∧
    allocated (divideBudget budget l).portions ≤ budget := by
  by_cases hscarce : budget < securedSum l
  · rw [divideBudget_of_lt hscarce]
    refine ⟨fun p hp => ⟨?_, (amount_le_secured_of_mem_floorsDivided hscarce hp).trans p.sharer.secured_le_demand⟩,
      (allocated_floorsDivided_bounds hscarce).1⟩
    obtain ⟨i, hi, rfl⟩ := List.mem_map.1 hp
    exact hi
  · have henough : securedSum l ≤ budget := Nat.not_lt.1 hscarce
    obtain ⟨-, -, hperm, hbounds, hsum, -⟩ := waterFillSpendsTheBudgetOnDemands budget l henough hweight
    exact ⟨fun p hp => ⟨hperm.mem_iff.1 (List.mem_map_of_mem hp), (hbounds p hp).2⟩, by omega⟩

/-- R19: with weights of at least 1, the target is at most the effective demand. -/
theorem State.target_le_dSelf_of_weights {s : State} (hweight : ∀ i ∈ s.sharers, 1 ≤ i.weight) : s.target ≤ s.dSelf := by
  unfold State.target Division.own
  cases hfind : s.division.portions.find? (·.sharer.own) with
  | none => exact Nat.zero_le _
  | some p =>
    obtain ⟨hmem, hle⟩ := (divideBudget_within hweight s.budget).1 p (List.mem_of_find?_eq_some hfind)
    have hown := List.find?_some hfind
    rw [State.eq_ownSharer_of_mem_sharers hmem hown] at hle
    exact hle

theorem State.localCap_le_least (s : State) : s.localCap ≤ min (min s.config.rating s.share.manualCap) s.droopCap := by
  unfold State.localCap
  dsimp only
  split
  · exact min_le_left _ _
  · exact le_rfl

/-- Settles O14: the target is within the effective demand, and that within every cap. -/
theorem everyComputationKeepsWithinTheBudget : Obligations.EveryComputationKeepsWithinTheBudget := by
  intro s hweight
  obtain ⟨hdemand, hspent⟩ := divideBudget_within hweight s.budget
  have htarget := State.target_le_dSelf_of_weights hweight
  have hcap := htarget.trans (s.dSelf_le_localCap.trans s.localCap_le_least)
  exact ⟨s.budget_le, fun p hp => (hdemand p hp).2, hspent, htarget, by omega, by omega, by omega,
    fun hfloor => htarget.trans (State.dSelf_le_floor hfloor)⟩

/-! ### The own station alone (R24) -/

/-- One sharer takes the lesser of its demand and the budget. -/
theorem own_divideBudget_singleton {i : Sharer} (hown : i.own = true) (hi : 1 ≤ i.weight) (budget : Nat) :
    (divideBudget budget [i]).own = min i.demand budget := by
  have hle := i.secured_le_demand
  have hsum := i.secured_add_excess
  have hsecured : securedSum [i] = i.secured := by simp [securedSum]
  by_cases hscarce : budget < i.secured
  · have hquotient : i.secured * budget / i.secured = budget := Nat.mul_div_cancel_left _ (by omega)
    rw [divideBudget_of_lt (hsecured.symm ▸ hscarce)]
    simp only [Division.own, floorsDivided, List.map_cons, List.map_nil, hsecured, hquotient, List.find?_cons_of_pos, hown]
    omega
  · have htest : i.excess * i.weight ≤ (budget - i.secured) * i.weight ↔ i.excess ≤ budget - i.secured :=
      Nat.mul_le_mul_right_iff hi
    have hsplit : splitPart (budget - i.secured) i.weight i = budget - i.secured := Nat.mul_div_cancel _ hi
    rw [divideBudget, if_neg (hsecured.symm ▸ hscarce), hsecured]
    simp only [orderSharers, List.foldr_cons, List.foldr_nil, insertSharer, weightSum, List.map_cons, List.map_nil,
      List.sum_cons, List.sum_nil, add_zero, waterFill, htest]
    split
    · simp only [Division.own, List.find?_cons_of_pos, hown]
      omega
    · simp only [Division.own, finalSplit, List.map_cons, List.find?_cons_of_pos, hown, hsplit]
      omega

/-- Settles O15: no FRESH truck entry leaves the own sharer alone. -/
theorem stationAloneTakesTheLesserOfDemandAndBudget : Obligations.StationAloneTakesTheLesserOfDemandAndBudget := by
  intro s hweight hstale
  have hnone : (s.peers.filterMap fun p => p.sharer s.now) = [] := by
    rw [List.filterMap_eq_nil_iff]
    intro p hp
    unfold Peer.sharer
    cases hpart : p.part with
    | feeder d => rfl
    | truck d => simp [hstale p d hp hpart]
  have halone : s.sharers = [s.ownSharer] := by rw [State.sharers, hnone]
  refine ⟨halone, ?_⟩
  rw [State.target, State.division, halone]
  exact own_divideBudget_singleton rfl hweight _

/-! ### The droop cap (R4, R5) -/

theorem droopFactor_between {vMin vKnee v : Nat} (hlow : vMin < v) (hhigh : v < vKnee) :
    droopFactor false vMin vKnee v = 256 * (v - vMin) / (vKnee - vMin) := by
  simp [droopFactor, hlow.not_ge, hhigh.not_ge]

theorem droopFactor_lt_of_between {vMin vKnee v : Nat} (hlow : vMin < v) (hhigh : v < vKnee) :
    droopFactor false vMin vKnee v < 256 := by
  rw [droopFactor_between hlow hhigh, Nat.div_lt_iff_lt_mul (by omega)]
  omega

theorem droopFactor_le (b : Bool) (vMin vKnee v : Nat) : droopFactor b vMin vKnee v ≤ 256 := by
  by_cases hlow : v ≤ vMin
  · unfold droopFactor
    split_ifs <;> omega
  · by_cases hhigh : vKnee ≤ v
    · simp [droopFactor, hhigh]
    · cases b with
      | true => simp [droopFactor]
      | false => exact (droopFactor_lt_of_between (Nat.lt_of_not_le hlow) (Nat.lt_of_not_le hhigh)).le

/-- A published code has 12 bits (R139). -/
theorem State.code_le (s : State) (n : Nat) : s.code n ≤ 4095 := Nat.le_of_lt_succ (BitVec.isLt _)

theorem State.droopCap_le_rating (s : State) : s.droopCap ≤ s.config.rating := by
  have hdroop : s.droop ≤ 256 := droopFactor_le ..
  exact Nat.div_le_of_le_mul (mul_comm 256 _ ▸ Nat.mul_le_mul_left _ hdroop)

/-- Settles O7: the rows of R4 one by one; at factor 0 every cap below is 0. -/
theorem droopCapFollowsTheVoltage : Obligations.DroopCapFollowsTheVoltage := by
  intro s hvolts hrating
  have hdroop : s.droop ≤ 256 := droopFactor_le ..
  refine ⟨fun hopen => ?_, fun hopen hhigh => ?_, fun hopen hlow => ?_, fun hopen hlow hhigh => ?_, hdroop, rfl,
    ?_, fun hfull => ?_, s.droopCap_le_rating, fun hzero => ?_⟩
  · simp [State.droop, droopFactor, hopen]
  · simp [State.droop, droopFactor, hhigh]
  · simp [State.droop, droopFactor, hopen, hlow, (hlow.trans_lt hvolts).not_ge]
  · have hlt : s.droop < 256 := by
      rw [State.droop, hopen]
      exact droopFactor_lt_of_between hlow hhigh
    have hcode := s.code_le 1
    exact ⟨by rw [State.droop, hopen, droopFactor_between hlow hhigh], by omega, by omega⟩
  · exact Nat.mul_le_mul hrating hdroop
  · simp [State.droopCap, hfull]
  · have hcap : s.droopCap = 0 := by simp [State.droopCap, hzero]
    have hself : s.dSelf = 0 := by
      have := s.dSelf_le_localCap.trans s.localCap_le_least
      omega
    exact ⟨hcap, hself, fun hweight => Nat.le_zero.1 (hself ▸ State.target_le_dSelf_of_weights hweight)⟩

end Sys2Proof.Machine

/-! ## The state after reset, the order of the hold list, the random generator -/

namespace Sys2Proof.Machine

/-- After reset the limit is 0 and no block is past its rest. -/
theorem State.limitLaws_reset : State.reset.LimitLaws where
  rating := Nat.zero_le _
  manual := Nat.zero_le _
  demand := Nat.zero_le _
  zero _ := rfl
  floor _ := Nat.zero_le _
  pulse := le_rfl
  onWire h := absurd rfl h

/-- Settles O5: every block is at its power-on value. -/
theorem formAndLimitLawsHoldAtReset : Obligations.FormAndLimitLawsHoldAtReset :=
  ⟨State.formed_powerOn State.reset State.reset.startup, State.limitLaws_reset⟩

/-- Settles O31: a SHED inserts its hold in its place among the entries kept, or leaves the list. -/
theorem holdListKeepsItsOrder : Obligations.HoldListKeepsItsOrder := by
  intro now o units reason holds _ hunits left sooner hform hnear horder
  rcases takenHolds_inserts_or_discards (o := o) (units := units) (reason := reason) hform.1 hnear with
    ⟨kept, hsub, -, hnew, heq⟩ | heq
  · have hhold : ((shedHold now o units reason).expiry - now).toNat ≤ 5000 := by
      rw [shedHold_left now o reason hunits]
      omega
    have hkept : ∀ q ∈ kept, (q.expiry - now).toNat ≤ 5000 := fun q hq => hnear q (hsub.subset hq)
    rw [heq]
    refine ⟨pairwise_insertHold hhold hkept hnew (horder.sublist hsub), fun q hq => ?_⟩
    rcases (mem_insertHold _ q now kept).1 hq with rfl | hmem
    · exact hhold
    · exact hkept q hmem
  · rw [heq]
    exact ⟨horder, hnear⟩

/-! ### The random generator (R112) -/

theorem getLsbD_lfsrStep (a : BitVec 16) {n : Nat} (hn : n < 15) : (lfsrStep a).getLsbD n = a.getLsbD (n + 1) := by
  have htop : (0x8000#16).getLsbD n = false := by
    rw [show (0x8000#16) = BitVec.twoPow 16 15 from rfl, BitVec.getLsbD_twoPow]
    simp [show 15 ≠ n by omega]
  unfold lfsrStep
  split <;> simp [htop, Nat.add_comm]

theorem getLsbD_lfsrStep_top (a : BitVec 16) :
    (lfsrStep a).getLsbD 15 = (((a.getLsbD 0 ^^ a.getLsbD 2) ^^ a.getLsbD 3) ^^ a.getLsbD 5) := by
  unfold lfsrStep
  split
  · rename_i htap
    simpa using htap.symm
  · rename_i htap
    simpa using htap

/-- A step is undone from its bits: bits 1 to 15 are the ones below them, and bit 0 follows from the new bit 15. -/
theorem lfsrStep_injective {a b : BitVec 16} (h : lfsrStep a = lfsrStep b) : a = b := by
  have hupper : ∀ n, n < 15 → a.getLsbD (n + 1) = b.getLsbD (n + 1) := fun n hn => by
    rw [← getLsbD_lfsrStep a hn, ← getLsbD_lfsrStep b hn, h]
  have hzero : a.getLsbD 0 = b.getLsbD 0 := by
    have htop := congrArg (·.getLsbD 15) h
    simp only [getLsbD_lfsrStep_top, hupper 1 (by decide), hupper 2 (by decide), hupper 4 (by decide)] at htop
    simpa using htop
  refine BitVec.eq_of_getLsbD_eq fun n hn => ?_
  cases n with
  | zero => exact hzero
  | succ n => exact hupper n (by omega)

theorem lfsrStep_ne_zero {a : BitVec 16} (h : a ≠ 0) : lfsrStep a ≠ 0 := fun hzero =>
  h (lfsrStep_injective (hzero.trans (by decide : (0 : BitVec 16) = lfsrStep 0)))

/-- Settles O50: bit by bit; only 0 steps to 0. -/
theorem randomGeneratorNeverReachesZero : Obligations.RandomGeneratorNeverReachesZero :=
  ⟨fun _ => rfl, fun _ _ => lfsrStep_injective,
    fun _ h => lfsrStep_ne_zero (lfsrStep_ne_zero (lfsrStep_ne_zero (lfsrStep_ne_zero h))),
    fun a _ hn => getLsbD_lfsrStep a hn, getLsbD_lfsrStep_top⟩

end Sys2Proof.Machine

/-! ## The bytes of a port command, and frames that find the table full -/

namespace Sys2Proof

/-! ### A parameter's bytes put together (section 12.2) -/

theorem append_halfBytes (h : Half) : h.extractLsb' 8 8 ++ h.extractLsb' 0 8 = h := by
  rw [BitVec.extractLsb'_append_extractLsb'_eq_extractLsb' (by rfl)]
  simp

theorem append_flagBytes (m : FlagSet) :
    m.extractLsb' 24 8 ++ m.extractLsb' 16 8 ++ m.extractLsb' 8 8 ++ m.extractLsb' 0 8 = m := by
  rw [BitVec.extractLsb'_append_extractLsb'_eq_extractLsb' (by rfl), BitVec.extractLsb'_append_extractLsb'_eq_extractLsb' (by rfl),
    BitVec.extractLsb'_append_extractLsb'_eq_extractLsb' (by rfl)]
  simp

theorem halfBytes_append (a b : Byte) : halfBytes (a ++ b) = [a, b] := by
  have hhigh : (a ++ b).extractLsb' 8 8 = a := BitVec.extractLsb'_append_eq_left
  have hlow : (a ++ b).extractLsb' 0 8 = b := BitVec.extractLsb'_append_eq_right
  rw [halfBytes, hhigh, hlow]

/-- A byte above the low eight bits of an append. -/
theorem extractLsb'_append_byte {n : Nat} (x : BitVec n) (y : Byte) (k : Nat) :
    (x ++ y).extractLsb' (8 + k) 8 = x.extractLsb' k 8 := by
  rw [BitVec.extractLsb'_append_eq_of_le (by omega), Nat.add_sub_cancel_left]

theorem flagBytes_append (a b c d : Byte) : flagBytes (a ++ b ++ c ++ d) = [a, b, c, d] := by
  have hlow : ∀ {n : Nat} (x : BitVec n) (y : Byte), (x ++ y).extractLsb' 0 8 = y :=
    fun _ _ => BitVec.extractLsb'_append_eq_right
  have h3 : (a ++ b ++ c ++ d).extractLsb' 24 8 = a := by
    rw [extractLsb'_append_byte _ d 16, extractLsb'_append_byte _ c 8, extractLsb'_append_byte _ b 0]
    exact BitVec.extractLsb'_eq_self
  have h2 : (a ++ b ++ c ++ d).extractLsb' 16 8 = b := by
    rw [extractLsb'_append_byte _ d 8, extractLsb'_append_byte _ c 0, hlow]
  have h1 : (a ++ b ++ c ++ d).extractLsb' 8 8 = c := by rw [extractLsb'_append_byte _ d 0, hlow]
  rw [flagBytes, h3, h2, h1, hlow]

/-! ### The command a transaction's bytes are taken as (R171) -/

theorem takes0_eq_some {params : List Byte} {i c : Instr} : takes0 params i = some c ↔ params = [] ∧ i = c := by
  cases params <;> simp [takes0]

theorem takes1_eq_some {params : List Byte} {f : Byte → Instr} {c : Instr} :
    takes1 params f = some c ↔ ∃ a, params = [a] ∧ f a = c := by
  match params with
  | [] => simp [takes1]
  | [a] => simp [takes1]
  | _ :: _ :: _ => simp [takes1]

theorem takes2_eq_some {params : List Byte} {f : Half → Instr} {c : Instr} :
    takes2 params f = some c ↔ ∃ h, params = halfBytes h ∧ f h = c := by
  constructor
  · match params with
    | [] => simp [takes2]
    | [a] => simp [takes2]
    | [a, b] => exact fun h => ⟨a ++ b, (halfBytes_append a b).symm, Option.some.inj h⟩
    | _ :: _ :: _ :: _ => simp [takes2]
  · rintro ⟨h, rfl, rfl⟩
    simp [takes2, halfBytes, append_halfBytes]

theorem takes3_eq_some {params : List Byte} {f : Half → Byte → Instr} {c : Instr} :
    takes3 params f = some c ↔ ∃ h b, params = halfBytes h ++ [b] ∧ f h b = c := by
  constructor
  · match params with
    | [] => simp [takes3]
    | [a] => simp [takes3]
    | [a, b] => simp [takes3]
    | [a, b, d] => exact fun h => ⟨a ++ b, d, by rw [halfBytes_append]; rfl, Option.some.inj h⟩
    | _ :: _ :: _ :: _ :: _ => simp [takes3]
  · rintro ⟨h, b, rfl, rfl⟩
    simp [takes3, halfBytes, append_halfBytes]

theorem takes4_eq_some {params : List Byte} {f : FlagSet → Instr} {c : Instr} :
    takes4 params f = some c ↔ ∃ m, params = flagBytes m ∧ f m = c := by
  constructor
  · match params with
    | [] => simp [takes4]
    | [a] => simp [takes4]
    | [a, b] => simp [takes4]
    | [a, b, d] => simp [takes4]
    | [a, b, d, e] => exact fun h => ⟨a ++ b ++ d ++ e, (flagBytes_append a b d e).symm, Option.some.inj h⟩
    | _ :: _ :: _ :: _ :: _ :: _ => simp [takes4]
  · rintro ⟨m, rfl, rfl⟩
    simp [takes4, flagBytes, append_flagBytes]

theorem byte_eq_of_toNat {code : Byte} {n : Nat} (h : code.toNat = n) : code = BitVec.ofNat 8 n :=
  BitVec.eq_of_toNat_eq (by simp [← h])

/-- What a transaction is taken as spells its bytes, and is well formed. -/
theorem transactionBytes_of_decode {t : Nat} {e : Bool} {bytes : List Byte} {c : Instr}
    (h : decodeTransaction t e bytes = some c) : transactionBytes c = some bytes ∧ c.wellFormed = true := by
  cases bytes with
  | nil => simp [decodeTransaction] at h
  | cons code params =>
    unfold decodeTransaction at h
    dsimp only at h
    split at h
    case h_21 =>
      obtain ⟨rfl, rfl⟩ := takes0_eq_some.1 h
      refine ⟨rfl, ?_⟩
      unfold Instr.wellFormed paramCount
      dsimp only
      split <;> simp_all
    case h_3 hcode | h_4 hcode =>
      obtain rfl := byte_eq_of_toNat hcode
      obtain ⟨m, rfl, rfl⟩ := takes4_eq_some.1 h
      exact ⟨rfl, rfl⟩
    case h_5 hcode =>
      obtain rfl := byte_eq_of_toNat hcode
      obtain ⟨d, b, rfl, rfl⟩ := takes3_eq_some.1 h
      exact ⟨rfl, rfl⟩
    case h_6 hcode =>
      obtain rfl := byte_eq_of_toNat hcode
      obtain ⟨d, rfl, rfl⟩ := takes2_eq_some.1 h
      exact ⟨rfl, rfl⟩
    case h_13 hcode | h_16 hcode =>
      obtain rfl := byte_eq_of_toNat hcode
      obtain ⟨b, rfl, rfl⟩ := takes1_eq_some.1 h
      exact ⟨rfl, rfl⟩
    all_goals
      rename_i hcode
      obtain rfl := byte_eq_of_toNat hcode
      obtain ⟨rfl, rfl⟩ := takes0_eq_some.1 h
      exact ⟨rfl, rfl⟩

/-- The bytes of a well-formed port command are as many as its code calls for. -/
theorem length_transactionBytes {c : Instr} {bytes : List Byte} (h : transactionBytes c = some bytes) (hc : c.wellFormed = true) :
    bytes.length = 1 + ((bytes.head?.bind paramCount).getD 0) := by
  cases c with
  | unknownCommand t code =>
    obtain rfl : [code] = bytes := Option.some.inj h
    have hnone : paramCount code = none := Option.isNone_iff_eq_none.1 hc
    simp [hnone]
  | _ => cases h <;> rfl

/-- The bytes of a well-formed port command are taken as it. -/
theorem exists_decode_of_transactionBytes {c : Instr} {bytes : List Byte} (h : transactionBytes c = some bytes)
    (hc : c.wellFormed = true) : ∃ t e, decodeTransaction t e bytes = some c := by
  cases c with
  | unknownCommand t code =>
    obtain rfl : [code] = bytes := Option.some.inj h
    have hnone : paramCount code = none := Option.isNone_iff_eq_none.1 hc
    refine ⟨t, false, ?_⟩
    unfold paramCount at hnone
    unfold decodeTransaction
    dsimp only
    split at hnone
    all_goals simp_all [takes0]
  | clearEvents t m => cases h; exact ⟨t, false, takes4_eq_some.2 ⟨m, rfl, rfl⟩⟩
  | writeEventMask t m => cases h; exact ⟨t, false, takes4_eq_some.2 ⟨m, rfl, rfl⟩⟩
  | writeDemand t d b => cases h; exact ⟨t, false, takes3_eq_some.2 ⟨d, b, rfl, rfl⟩⟩
  | writeCap t d => cases h; exact ⟨t, false, takes2_eq_some.2 ⟨d, rfl, rfl⟩⟩
  | raise t e => cases h; exact ⟨t, e, rfl⟩
  | readPeer t _ | readArc t _ => cases h; exact ⟨t, false, rfl⟩
  | readStatus t | readEvents t | sectionAhead t | transmitOn t | transmitOff t | lower t | clearFault t | readBudget t | readHolds t
  | readMeasurements t | readConfig t | readIdentity t | warmReset t => cases h; exact ⟨t, false, rfl⟩
  | _ => cases h

/-- While a parameter byte is missing nothing is taken. -/
theorem decode_of_incomplete {t : Nat} {e : Bool} {bytes : List Byte} (h : incomplete bytes = true) :
    decodeTransaction t e bytes = none := by
  rw [Option.eq_none_iff_forall_ne_some]
  intro c hc
  obtain ⟨hbytes, hwell⟩ := transactionBytes_of_decode hc
  have hlength := length_transactionBytes hbytes hwell
  cases bytes with
  | nil => simp at hlength
  | cons code params =>
    unfold incomplete at h
    dsimp only at h
    split at h
    · exact absurd h (by decide)
    next n hcount =>
      simp only [List.length_cons, List.head?_cons, Option.bind_some, hcount, Option.getD_some] at hlength
      simp only [decide_eq_true_eq] at h
      omega

/-- Settles O54: the decoder's arms invert the bytes of the commands, and the length decides while bytes are missing. -/
theorem portTransactionsRoundTrip : Obligations.PortTransactionsRoundTrip :=
  ⟨fun _ _ hc h => ⟨exists_decode_of_transactionBytes h hc, length_transactionBytes h hc⟩,
    fun _ _ _ _ h => transactionBytes_of_decode h, fun _ _ _ h => decode_of_incomplete h⟩

end Sys2Proof

namespace Sys2Proof.Machine

/-! ### An unknown sender and a full table (R31 to R34) -/

/-- R31: the STALE entry of the greatest age gives its room. -/
theorem State.takePeer_of_stale {s : State} {p v : Peer} (hnew : ∀ q ∈ s.peers, q.address ≠ p.address)
    (hfull : s.peers.length = 12) (hv : oldestStale s.now s.peers = some v) :
    s.takePeer p = { s with peers := insertPeer p (removePeer v.address s.peers) } := by
  have hunknown : ¬ hasPeer s.peers p.address = true := fun hknown => by
    obtain ⟨q, hq, haddress⟩ := (hasPeer_iff _ _).1 hknown
    exact hnew q hq haddress
  rw [State.takePeer, if_neg hunknown, if_neg (show ¬ s.peers.length < peerCapacity from hfull ▸ Nat.lt_irrefl 12), hv]

/-- R32: with every entry FRESH the frame is refused. -/
theorem State.takePeer_of_fresh {s : State} {p : Peer} (hnew : ∀ q ∈ s.peers, q.address ≠ p.address)
    (hfull : s.peers.length = 12) (hnone : oldestStale s.now s.peers = none) : s.takePeer p = s.refusePeer := by
  have hunknown : ¬ hasPeer s.peers p.address = true := fun hknown => by
    obtain ⟨q, hq, haddress⟩ := (hasPeer_iff _ _).1 hknown
    exact hnew q hq haddress
  rw [State.takePeer, if_neg hunknown, if_neg (show ¬ s.peers.length < peerCapacity from hfull ▸ Nat.lt_irrefl 12), hnone]

/-- R34: a feeder's refusal only raises TABLE_OVERFLOW. -/
theorem State.refusePeer_of_feeder {s : State} (h : s.isTruck = false) : s.refusePeer = s.raise .tableOverflow := by
  unfold State.refusePeer
  rw [if_neg]
  exact fun hc => by simp [show (s.raise .tableOverflow).isTruck = s.isTruck from rfl, h] at hc

/-- R33 and R66: a truck's refusal starts the overflow timer; the floor caps the limit where no DEGRADED condition stood. -/
theorem State.refusePeer_of_truck {s : State} (h : s.isTruck = true) : s.refusePeer =
    { s with
      share := { s.share with overflowTimer := some (s.clock + 100000 * s.config.period) }
      lim := if s.degradedStands = true then s.lim else (s.immediateCap s.config.floor).lim
      port := s.port.raise .tableOverflow } := by
  have htimer : (s.raise .tableOverflow).afterMs (100 * s.config.period) = some (s.clock + 100000 * s.config.period) := by
    simp [State.afterMs, ← Nat.mul_assoc]
  have hstood : (s.raise .tableOverflow).degradedStands = s.degradedStands := rfl
  unfold State.refusePeer
  rw [if_pos (show (s.raise .tableOverflow).isTruck = true from h)]
  dsimp only
  rw [hstood, show (s.raise .tableOverflow).config = s.config from rfl, htimer]
  split
  · rfl
  · rw [State.floorOnset, State.immediateCap_frame]
    congr 1
    exact State.immediateCap_lim_congr _ _ _ rfl rfl rfl

/-- Settles O25: the oldest STALE entry is the one the search finds, and without one the frame is refused. -/
theorem fullTableEvictsTheOldestOrRefuses : Obligations.FullTableEvictsTheOldestOrRefuses := by
  intro t a s i p f starts hready hheard hvalid hother hform hframe hnew hfull
  obtain ⟨hexec, rfl, hrange⟩ :
      exec i s = .next ((s.frameHeard t starts).takePeer p) ∧ p.address = a ∧ p.inRange := by
    rcases hframe with ⟨d, v, rfl, rfl, rfl, rfl⟩ | ⟨d, v, rfl, rfl, rfl, rfl⟩
    · exact ⟨exec_demandReceived_accepted hready hheard hvalid hother, rfl, Peer.inRange_of_takenDemand _ d _⟩
    · exact ⟨exec_supplyReceived_accepted hready hheard hvalid hother, rfl, Peer.inRange_of_takenSupply _ d _⟩
  have hnow : (s.takenAt t).now = (s.frameHeard t starts).now := by rw [State.takenAt_of_ready t s hready]; rfl
  rw [hnow, hexec]
  refine ⟨fun v hv hstale holdest => ?_, fun hfresh => ?_⟩
  · have hfound : oldestStale (s.frameHeard t starts).now s.peers = some v := oldestStale_eq_some _ _ hform.2.1 v hv hstale holdest
    have hlength := length_removePeer v s.peers hform.2.1 hv
    rw [State.takePeer_of_stale (s := s.frameHeard t starts) hnew hfull hfound]
    refine ⟨_, rfl, tableForm_evict hform ⟨hvalid, hother, hrange⟩ hnew hv, ?_, fun q => ?_, rfl⟩
    · rw [length_insertPeer]
      exact hlength.trans hfull
    · rw [mem_insertPeer, mem_removePeer]
      rfl
  · have hnone : oldestStale (s.frameHeard t starts).now s.peers = none := oldestStale_eq_none _ _ hfresh
    rw [State.takePeer_of_fresh (s := s.frameHeard t starts) hnew hfull hnone]
    by_cases htruck : s.isTruck = true
    · rw [State.refusePeer_of_truck (s := s.frameHeard t starts) htruck]
      refine ⟨_, rfl, rfl, fun _ => ⟨rfl, fun hstood => ?_, fun hstood => ?_⟩, fun hfeeder => ?_, rfl⟩
      · rw [if_neg (show ¬ (s.frameHeard t starts).degradedStands = true by
          simp [show (s.frameHeard t starts).degradedStands = s.degradedStands from rfl, hstood])]
        rw [State.takenAt_of_ready t s hready]
        exact State.immediateCap_lim_congr _ _ _ rfl rfl rfl
      · exact if_pos hstood
      · simp [htruck] at hfeeder
    · have hfeeder : s.isTruck = false := by simpa using htruck
      rw [State.refusePeer_of_feeder (s := s.frameHeard t starts) hfeeder]
      exact ⟨_, rfl, rfl, fun hc => absurd hc htruck, fun _ => ⟨rfl, rfl⟩, rfl⟩

end Sys2Proof.Machine

/-! ## The arc records completed, logged and given their pair -/

namespace Sys2Proof.Machine

/-- R158: a record enters the log, of 16 the oldest leaving, and the count is taken. -/
theorem State.logRecord_eq (s : State) (r : ArcRecord) : s.logRecord r = State.takeStormCount { s with arc := { s.arc with
    log := (if s.arc.log.length < 16 then s.arc.log else s.arc.log.tail) ++ [r] } } := by
  have henter : enterLog s.arc.log r = (if s.arc.log.length < 16 then s.arc.log else s.arc.log.tail) ++ [r] := by
    rw [enterLog, List.drop_one, show arcLogCapacity = 16 from rfl]
    split <;> rfl
  rw [State.logRecord, henter]

/-- R158: the complete records at the front enter the log one after the other, and the others stay pending. -/
theorem State.settleArcs_eq (l : List ArcRecord) (s : State) : s.settleArcs l =
    { (l.takeWhile ArcRecord.complete).foldl State.logRecord s with
      arc := { ((l.takeWhile ArcRecord.complete).foldl State.logRecord s).arc with pending := l.dropWhile ArcRecord.complete } } := by
  induction l generalizing s with
  | nil => rfl
  | cons r rest ih =>
    unfold State.settleArcs
    by_cases h : r.complete = true
    · rw [if_pos h, ih, List.takeWhile_cons_of_pos h, List.dropWhile_cons_of_pos h]
      rfl
    · rw [if_neg h, List.takeWhile_cons_of_neg h, List.dropWhile_cons_of_neg h]
      rfl

theorem State.changeArcs_of_eq {s : State} {l : List ArcRecord} (h : l = s.arc.pending) : s.changeArcs l = s := if_pos h

theorem State.changeArcs_of_ne {s : State} {l : List ArcRecord} (h : l ≠ s.arc.pending) : s.changeArcs l = s.settleArcs l := if_neg h

theorem State.arcGate_iff (s : State) : s.arcGate = true ↔ s.startup = .ready ∧ s.panto.state ≠ .lowered ∧ s.panto.state ≠ .faulted := by
  unfold State.arcGate State.isReady
  cases s.panto.state <;> simp

section
variable {t : Nat} {s : State} (hready : s.startup = .ready)
include hready

theorem exec_arcEnd (hgate : s.panto.state ≠ .lowered ∧ s.panto.state ≠ .faulted) : exec (.arcEnd t) s =
    .next (State.changeArcs { s with clock := max s.clock t }
      (timeOldest (fun r => some (min 65535 (r.age (s.takenAt t).arcNow))) s.arc.pending)) := by
  change execArcEnd t s = _
  rw [execArcEnd, State.takenAt_of_ready t s hready]
  exact congrArg Host.Outcome.next (if_pos ((State.arcGate_iff _).2 ⟨hready, hgate⟩))

theorem exec_arcSaturation : exec (.arcSaturation t) s =
    .next (State.changeArcs { s with clock := max s.clock t }
      (timeOldest (fun r => if 65535 ≤ r.age (s.takenAt t).arcNow then some 65535 else none) s.arc.pending)) := by
  change execArcSaturation t s = _
  rw [execArcSaturation, State.takenAt_of_ready t s hready]

/-- With every pending record timed, no edge and no saturation changes one. -/
theorem exec_arcEnd_of_timed (h : ∀ q ∈ s.arc.pending, q.duration ≠ none) :
    exec (.arcEnd t) s = .next { s with clock := max s.clock t } ∧
    exec (.arcSaturation t) s = .next { s with clock := max s.clock t } := by
  refine ⟨?_, ?_⟩
  · change execArcEnd t s = _
    rw [execArcEnd, State.takenAt_of_ready t s hready]
    dsimp only
    rw [timeOldest_of_timed _ _ h, State.changeArcs_of_eq (s := { s with clock := max s.clock t }) rfl, ite_self]
  · rw [exec_arcSaturation hready, timeOldest_of_timed _ _ h, State.changeArcs_of_eq (s := { s with clock := max s.clock t }) rfl]

end

/-- R147: the first channel 0 position whose conversion begins at or after the request. -/
theorem firstPosition_eq {since request k : Nat} (hk : k % 3 = 0) (hle : request ≤ since + 20 * k)
    (hlt : 3 ≤ k → since + 20 * (k - 3) < request) : firstPosition since request = k := by
  simp only [firstPosition, show conversionTime = 20 from rfl]
  omega

theorem exec_channel0SampleHeld {t since request k : Nat} {sample : Code} {s : State} (hready : s.startup = .ready)
    (hsweep : s.sweeper.conversion = .sweep since) (hrequest : s.sweeper.pairRequest = some request)
    (hnone : s.sweeper.heldSample = none) (hfirst : firstPosition since request = k)
    (hdue : k ≤ 15 ∧ since + 20 * (k + 1) ≤ max s.clock t) : exec (.channel0SampleHeld t sample) s = .next { s with
      clock := max s.clock t
      sweeper := { s.sweeper with
        heldSample := some { code := sample, begun := since + 20 * k, since := max s.clock t }
        pairSamples := s.sweeper.pairSamples.setIfInBounds k (some sample) } } := by
  change execChannel0SampleHeld t sample s = _
  rw [execChannel0SampleHeld, State.takenAt_of_ready t s hready]
  simp only [hsweep, hrequest, hnone, hfirst, show conversionTime = 20 from rfl, if_pos hdue, Sweeper.holdSample, Sweeper.keepSample]

/-- R157: the pair goes to the records that lack one; with every one received nothing changes. -/
theorem map_takePair_eq_self_iff (l : List ArcRecord) (current voltage : Option Code) :
    (l.map fun r => r.takePair current voltage) = l ↔ ∀ q ∈ l, q.pairReceived = true := by
  have hone : ∀ r : ArcRecord, r.takePair current voltage = r ↔ r.pairReceived = true := by
    intro r
    unfold ArcRecord.takePair
    split
    next h => simp [h]
    next h => exact ⟨fun heq => by rw [← heq], fun hc => absurd hc h⟩
  induction l with
  | nil => simp
  | cons r rest ih => simp [hone, ih]

theorem exec_measurementPairHanded {t : Nat} {sample : Code} {s : State} {held : HeldSample} (hready : s.startup = .ready)
    (hheld : s.sweeper.heldSample = some held) (hpaired : held.since + 20 ≤ max s.clock t) :
    exec (.measurementPairHanded t sample) s = .next (State.changeArcs
      { s with clock := max s.clock t, sweeper := s.sweeper.handPair held sample }
      (s.arc.pending.map fun r => r.takePair (if s.openChannel 0 then none else some held.code)
        (if s.openChannel 1 then none else some sample))) := by
  change execMeasurementPairHanded t sample s = _
  rw [execMeasurementPairHanded, State.takenAt_of_ready t s hready]
  dsimp only
  rw [hheld]
  dsimp only
  rw [if_pos (show held.paired (max s.clock t) = true from decide_eq_true hpaired)]
  rfl

/-- Settles O47: the changed records are settled, the complete ones at the front entering the log one by one. -/
theorem arcRecordsAreCompletedAndLoggedInOrder : Obligations.ArcRecordsAreCompletedAndLoggedInOrder := by
  intro t s hready now enters done settles
  have henters : State.logRecord = enters := funext fun n => funext fun r => n.logRecord_eq r
  have hsettles : ∀ (i : Instr) (l : List ArcRecord) (w : Sweeper), l ≠ s.arc.pending →
      exec i s = .next (State.changeArcs { s with clock := max s.clock t, sweeper := w } l) → settles i l w := by
    intro i l w hne hexec
    refine ⟨_, rfl, ?_⟩
    rw [hexec, State.changeArcs_of_ne (s := { s with clock := max s.clock t, sweeper := w }) hne, State.settleArcs_eq, henters]
    rfl
  refine ⟨fun pre r post hpending hpre hr => ?_, exec_arcEnd_of_timed hready, ?_, fun held sample hheld hpaired => ?_⟩
  · have hchanged : ∀ d, pre ++ { r with duration := some d } :: post ≠ s.arc.pending := fun d heq => by
      rw [hpending] at heq
      have hsame : ({ r with duration := some d } : ArcRecord) = r := (List.cons.inj (List.append_cancel_left heq)).1
      rw [← hsame] at hr
      cases hr
    refine ⟨fun hlowered hfaulted => hsettles _ _ _ (hchanged _) ?_, fun hold => hsettles _ _ _ (hchanged _) ?_⟩
    · rw [exec_arcEnd hready ⟨hlowered, hfaulted⟩, hpending, timeOldest_append _ _ _ _ hpre hr]
      rfl
    · rw [exec_arcSaturation hready, hpending, timeOldest_append _ _ _ _ hpre hr,
        if_pos (show 65535 ≤ r.age (s.takenAt t).arcNow from hold)]
  · intro since request k sample hsweep hrequest hnone hk hle hrange hlt hdue
    exact exec_channel0SampleHeld hready hsweep hrequest hnone (firstPosition_eq hk hrange hlt) ⟨hle, hdue⟩
  · have hexec := exec_measurementPairHanded (sample := sample) hready hheld hpaired
    have hrequest : s.sweeper.requestAfterPair held = match s.sweeper.pairRequest with
        | some request => if held.since + 20 ≤ request then some request else none
        | none => none := by
      cases h : s.sweeper.pairRequest <;> simp [Sweeper.requestAfterPair, h, HeldSample.paired, Option.filter, conversionTime]
    rw [Sweeper.handPair_eq, hrequest] at hexec
    refine ⟨fun hall => ?_, fun hsome => hsettles _ _ _ (fun heq => ?_) ?_⟩
    · exact hexec.trans (congrArg Host.Outcome.next (State.changeArcs_of_eq ((map_takePair_eq_self_iff _ _ _).2 hall)))
    · obtain ⟨q, hq, hnone⟩ := hsome
      have := (map_takePair_eq_self_iff _ _ _).1 heq q hq
      simp [hnone] at this
    · rw [hexec]
      rfl

end Sys2Proof.Machine

/-! ## The configuration block -/

namespace Sys2Proof.Machine

/-! ### The table of R180, place by place -/

/-- The weights stand in the halves of bytes 7 and 8; the strobe mode's three codes are those of R180. -/
theorem strobeModeOf_used (b : List Byte) : strobeModeOf (strobeField b).used =
    (if placed1 b 3 / 2 % 4 = 0 then .off else if placed1 b 3 / 2 % 4 = 1 then .onChange else .everyApplication) := by
  have hused : (strobeField b).used = min 2 (placed1 b 3 / 2 % 4) := Nat.zero_max _
  rw [hused]
  split_ifs with h0 h1
  · rw [h0]
    rfl
  · rw [h1]
    rfl
  · rw [Nat.min_eq_left (by omega)]
    rfl

/-- R180: the configuration of an accepted block, field by field. -/
theorem takenFrom_acceptedConfiguration (b : List Byte) : TakenFrom (acceptedConfiguration b) b := by
  rw [acceptedConfiguration_eq]
  refine ⟨⟨rfl, ?_⟩, strobeModeOf_used b, ⟨rfl, rfl, rfl, rfl, rfl⟩, ⟨rfl, rfl, rfl, rfl, rfl⟩, ⟨rfl, rfl, rfl, rfl, rfl⟩,
    ⟨rfl, rfl, rfl, rfl, rfl⟩, ⟨rfl, rfl, rfl, rfl, rfl⟩, ⟨rfl, rfl, rfl, rfl, rfl⟩, ⟨rfl, rfl, rfl, rfl, rfl⟩,
    fun hbelow => if_neg (Nat.not_le.2 hbelow), fun hle => if_pos hle, rfl⟩
  by_cases hrole : blockByte b 3 % 2 = 1
  · exact iff_of_true (if_pos hrole) hrole
  · refine iff_of_false (fun hc => ?_) hrole
    simp [blockConfiguration, hrole] at hc

/-! ### What was altered (R179) -/

/-- A field is used as it stands exactly where it lies in its range. -/
theorem BlockField.used_ne_raw_iff {f : BlockField} (h : f.lo ≤ f.hi) : f.used ≠ f.raw ↔ f.raw < f.lo ∨ f.hi < f.raw := by
  unfold BlockField.used clampTo
  omega

theorem blockFields_ordered (b : List Byte) : ∀ f ∈ blockFields b, f.lo ≤ f.hi := by
  simp [blockFields, strobeField, stormField, weightField, byteField, wordField]

/-- The fields of the block, V_knee and V_collapse last. -/
theorem blockRanges_eq (b : List Byte) : blockRanges b =
    ((blockFields b).take 13 ++ (blockFields b).drop 15 ++ ((blockFields b).drop 13).take 2).map fun f => (f.raw, f.lo, f.hi) := rfl

theorem mem_blockRanges_iff (b : List Byte) (r : Nat × Nat × Nat) :
    r ∈ blockRanges b ↔ ∃ f ∈ blockFields b, (f.raw, f.lo, f.hi) = r := by
  have hperm : ((blockFields b).take 13 ++ (blockFields b).drop 15 ++ ((blockFields b).drop 13).take 2).Perm (blockFields b) := by
    have hsplit : (blockFields b).take 13 ++ (((blockFields b).drop 13).take 2 ++ (blockFields b).drop 15) = blockFields b := rfl
    rw [List.append_assoc]
    exact (List.perm_append_comm.append_left _).trans (.of_eq hsplit)
  rw [blockRanges_eq, List.mem_map]
  simp only [hperm.mem_iff]

/-- The two corrections leave a configuration alone exactly where neither applies. -/
theorem acceptedConfiguration_ne_iff (b : List Byte) : acceptedConfiguration b ≠ blockConfiguration b ↔
    min 4095 (placed2 b 19) ≤ min 4095 (placed2 b 17) ∨ min 4095 (placed2 b 17) < min 4095 (placed2 b 21) := by
  have hused : ∀ i, (wordField b i 0 4095).used = min 4095 (placed2 b i) := fun i => Nat.zero_max _
  have hsame : ∀ (c : Configuration) (knee collapse : Nat), { c with vKnee := knee, vCollapse := collapse } = c ↔
      knee = c.vKnee ∧ collapse = c.vCollapse := by
    intro c knee collapse
    cases c
    simp
  rw [acceptedConfiguration_eq, Ne, hsame, hused, hused, hused]
  rw [show (blockConfiguration b).vKnee = (wordField b 19 0 4095).used from rfl,
    show (blockConfiguration b).vCollapse = (wordField b 21 0 4095).used from rfl, hused, hused]
  split_ifs <;> omega

theorem blockAdjusted_iff (b : List Byte) : blockAdjusted b = true ↔ Altered b := by
  have hfields : (blockFields b).any (fun f => f.used != f.raw) = true ↔ ∃ r ∈ blockRanges b, r.1 < r.2.1 ∨ r.2.2 < r.1 := by
    simp only [List.any_eq_true, bne_iff_ne, mem_blockRanges_iff]
    constructor
    · rintro ⟨f, hf, hne⟩
      exact ⟨_, ⟨f, hf, rfl⟩, (BlockField.used_ne_raw_iff (blockFields_ordered b f hf)).1 hne⟩
    · rintro ⟨_, ⟨f, hf, rfl⟩, hout⟩
      exact ⟨f, hf, (BlockField.used_ne_raw_iff (blockFields_ordered b f hf)).2 hout⟩
  unfold blockAdjusted Altered
  rw [Bool.or_eq_true, Bool.or_eq_true, or_assoc, hfields, beq_iff_eq, bne_iff_ne, acceptedConfiguration_ne_iff]
  rfl

/-! ### A configuration written as a block (R180) -/

/-- The fields of a block as they stand in it, none of them clamped. -/
def rawConfiguration (b : List Byte) : Configuration where
  address := BitVec.ofNat 16 (blockWord b 1)
  role := if blockByte b 3 % 2 = 1 then .feeder else .truck
  strobeMode := strobeModeOf (blockByte b 3 / 2 % 4)
  stormThreshold := blockByte b 3 / 8
  period := blockByte b 4
  listenTime := blockWord b 5
  weight0 := blockByte b 7 / 16
  weight1 := blockByte b 7 % 16
  weight2 := blockByte b 8 / 16
  weight3 := blockByte b 8 % 16
  floor := blockWord b 9
  rating := blockWord b 11
  rampStep := blockWord b 13
  capacity := blockWord b 15
  vMin := blockWord b 17
  vKnee := blockWord b 19
  vCollapse := blockWord b 21
  vDead := blockWord b 23
  releaseCurrent := blockWord b 25
  unloadTimeout := blockWord b 27
  raiseTimeout := blockWord b 29
  lowerTimeout := blockWord b 31
  contactThreshold := blockWord b 33
  windowLow := blockWord b 35
  windowHigh := blockWord b 37
  lossThreshold := blockWord b 39
  lossTime := blockByte b 41
  imbalanceLimit := blockWord b 42
  raiseDuty := blockByte b 44
  lowerDuty := blockByte b 45
  holdStart := blockByte b 46
  holdMin := blockByte b 47
  holdMax := blockByte b 48
  holdStep := blockByte b 49
  topStop := blockWord b 50
  loweredThreshold := blockWord b 52
  arcWindow := blockWord b 54
  collapseHold := blockWord b 56
  feederHold := blockWord b 58
  crossingTimeout := blockWord b 60

theorem toNat_byte1 {n : Nat} (h : n < 256) : (byte1 n).toNat = n := by
  rw [byte1, BitVec.toNat_ofNat]
  omega

/-- Two bytes, high byte first, give back a value below 2^16. -/
theorem word_bytes2 {n : Nat} (h : n < 65536) : 256 * (BitVec.ofNat 8 (n / 256)).toNat + (BitVec.ofNat 8 n).toNat = n := by
  simp only [BitVec.toNat_ofNat]
  omega

theorem strobeCode_le (m : StrobeMode) : strobeCode m ≤ 2 := by cases m <;> decide

theorem strobeModeOf_code (m : StrobeMode) : strobeModeOf (strobeCode m) = m := by cases m <;> rfl

theorem bitOf_le (b : Bool) : bitOf b ≤ 1 := by cases b <;> decide

/-- Byte 3 of a configuration's block (R180). -/
theorem blockByte_configBytes_three {c : Configuration} (hstorm : c.stormThreshold ≤ 16) (l : List Byte) :
    blockByte (configBytes c ++ l) 3 = bitOf (c.role == .feeder) + 2 * strobeCode c.strobeMode + 8 * c.stormThreshold := by
  have hcode := strobeCode_le c.strobeMode
  have hbit := bitOf_le (c.role == .feeder)
  simp only [blockByte, configBytes, bytes2, List.cons_append, List.nil_append, List.getD_cons_succ, List.getD_cons_zero]
  exact toNat_byte1 (by omega)

/-- READ CONFIG's bytes spell the configuration they are of. -/
theorem rawConfiguration_configBytes {c : Configuration} (h : configForm c) (l : List Byte) :
    rawConfiguration (configBytes c ++ l) = c := by
  have hcode := strobeCode_le c.strobeMode
  have hbit := bitOf_le (c.role == .feeder)
  have hrole : (if bitOf (c.role == .feeder) = 1 then Role.feeder else .truck) = c.role := by cases c.role <;> rfl
  have hstrobe := strobeModeOf_code c.strobeMode
  obtain ⟨⟨-, hsmall⟩, hranges⟩ := h
  obtain ⟨address, role, strobeMode, stormThreshold⟩ := c
  dsimp only at hsmall hranges hcode hbit hrole hstrobe
  simp only [rawConfiguration, Configuration.mk.injEq, blockWord, blockByte, configBytes, bytes2, List.cons_append,
    List.nil_append, List.getD_cons_succ, List.getD_cons_zero]
  simp (disch := omega) only [word_bytes2, toNat_byte1, and_true, true_and]
  refine ⟨by simp, ?_, ?_, by omega, by omega, by omega, by omega, by omega⟩
  · rw [show (bitOf (role == .feeder) + 2 * strobeCode strobeMode + 8 * stormThreshold) % 2 = bitOf (role == .feeder) by omega]
    exact hrole
  · rw [show (bitOf (role == .feeder) + 2 * strobeCode strobeMode + 8 * stormThreshold) / 2 % 4 = strobeCode strobeMode by omega]
    exact hstrobe

/-- A block that spells a configuration in range is used as it stands. -/
theorem blockFields_used_of_range {b : List Byte} (h : configForm (rawConfiguration b)) (hknee : blockWord b 19 ≤ 4095)
    (hstrobe : blockByte b 3 / 2 % 4 ≤ 2) : ∀ f ∈ blockFields b, f.used = f.raw := by
  have hin : ∀ f : BlockField, f.lo ≤ f.raw → f.raw ≤ f.hi → f.used = f.raw := fun f hlo hhi => by
    unfold BlockField.used clampTo
    omega
  obtain ⟨⟨-, hsmall⟩, hweights, hfloor, hvolts, htimes, hforces, hduties, hplaces⟩ := h
  simp only [rawConfiguration] at hsmall hweights hfloor hvolts htimes hforces hduties hplaces
  simp only [blockFields, List.forall_mem_append, List.forall_mem_cons, List.not_mem_nil, false_implies, implies_true, and_true]
  and_intros <;> refine hin _ ?_ ?_ <;>
    simp only [strobeField, stormField, weightField, byteField, wordField, Nat.reduceMod, Nat.reduceDiv, Nat.reduceAdd, if_true,
      if_false, Nat.add_zero, Nat.zero_div, Nat.zero_mod, Nat.one_mod, one_ne_zero] <;> omega

theorem blockConfiguration_eq_raw {b : List Byte} (hused : ∀ f ∈ blockFields b, f.used = f.raw) (haddress : blockWord b 1 ≠ 0xFFFF) :
    blockConfiguration b = rawConfiguration b := by
  have hplace : blockAddress b = BitVec.ofNat 16 (blockWord b 1) := if_neg haddress
  simp only [blockFields, List.forall_mem_append, List.forall_mem_cons, List.not_mem_nil, false_implies, implies_true,
    and_true] at hused
  simp only [blockConfiguration, hused, hplace]
  rfl

/-- A block that spells a configuration in range is altered nowhere (R179). -/
theorem acceptedConfiguration_of_range {b : List Byte} (h : configForm (rawConfiguration b)) (hknee : blockWord b 19 ≤ 4095)
    (hstrobe : blockByte b 3 / 2 % 4 ≤ 2) : acceptedConfiguration b = rawConfiguration b ∧ blockAdjusted b = false := by
  have hused := blockFields_used_of_range h hknee hstrobe
  obtain ⟨⟨haddress, -⟩, -, -, ⟨hmin, hbelow, -, hcollapse, -⟩, -⟩ := h
  simp only [rawConfiguration] at haddress hmin hbelow hcollapse
  have hword : blockWord b 1 ≠ 0xFFFF := fun heq => haddress (by rw [heq]; rfl)
  have hcorrected : acceptedConfiguration b = blockConfiguration b := by
    by_contra hne
    have := (acceptedConfiguration_ne_iff b).1 hne
    have hplaced : ∀ i, placed2 b i = blockWord b i := fun _ => rfl
    simp only [hplaced] at this
    omega
  refine ⟨hcorrected.trans (blockConfiguration_eq_raw hused hword), ?_⟩
  have hfields : (blockFields b).any (fun f => f.used != f.raw) = false := by
    rw [List.any_eq_false]
    intro f hf
    simp [hused f hf]
  simp [blockAdjusted, hfields, hword, hcorrected]

theorem length_configBytes (c : Configuration) : (configBytes c).length = 62 := by
  simp [configBytes, bytes2]

/-- The two bytes of the CRC follow the configuration's 62. -/
theorem blockWord_crc (c : Configuration) (h : Half) : blockWord (configBytes c ++ halfBytes h) 62 = h.toNat := by
  have hlast : ∀ n, blockByte (configBytes c ++ halfBytes h) (62 + n) = ((halfBytes h).getD n 0).toNat := fun n => by
    rw [blockByte, List.getD_append_right _ _ _ _ (by rw [length_configBytes]; omega), length_configBytes, Nat.add_sub_cancel_left]
  have hlt := h.isLt
  rw [blockWord, hlast 0, hlast 1]
  simp only [halfBytes, List.getD_cons_zero, List.getD_cons_succ, BitVec.extractLsb'_toNat, Nat.shiftRight_eq_div_pow]
  omega

/-- A block that spells a configuration in range, with its CRC, is accepted as it (R179). -/
theorem loadOutcome_of_configBytes {c : Configuration} {v : Vector Byte 64} (h : configForm c) (hknee : c.vKnee ≤ 4095)
    (hv : v.toList = configBytes c ++ halfBytes (crc16 (configBytes c))) : loadOutcome (some v) = (.accepted, c) := by
  have hraw := rawConfiguration_configBytes h (halfBytes (crc16 (configBytes c)))
  have hversion : blockByte v.toList 0 = 1 := by
    rw [hv]
    rfl
  have hcrc : (crc16 (v.toList.take 62)).toNat = blockWord v.toList 62 := by
    rw [hv, blockWord_crc, List.take_left' (length_configBytes c)]
  have hstrobe : blockByte v.toList 3 / 2 % 4 ≤ 2 := by
    obtain ⟨⟨-, ⟨-, hstorm⟩, -⟩, -⟩ := h
    have hcode := strobeCode_le c.strobeMode
    have hbit := bitOf_le (c.role == .feeder)
    rw [hv, blockByte_configBytes_three hstorm]
    omega
  rw [← hv] at hraw
  have hplace : blockWord v.toList 19 = c.vKnee := by
    rw [← hraw]
    rfl
  obtain ⟨haccepted, hunaltered⟩ := acceptedConfiguration_of_range (hraw.symm ▸ h) (hplace ▸ hknee) hstrobe
  simp [loadOutcome, hversion, hcrc, hunaltered, haccepted, hraw]

/-- Settles O55: the table place by place, and the fields of a written configuration read back. -/
theorem configurationBlockRoundTrip : Obligations.ConfigurationBlockRoundTrip := by
  refine ⟨fun c v h hknee hv => loadOutcome_of_configBytes h hknee hv,
    fun b => ⟨configForm_acceptedConfiguration b, takenFrom_acceptedConfiguration b, blockAdjusted_iff b⟩, fun b c hb hc heq => ?_⟩
  have hread := rawConfiguration_configBytes hb []
  rw [heq, rawConfiguration_configBytes hc []] at hread
  exact hread.symm

end Sys2Proof.Machine

/-! ## What only named commands change -/

namespace Sys2Proof.Machine

/-! ### The event mask, and the Carrier Link's flag and receiver, through the shared operations -/

/-- The transmit-enable flag, the assembler and the moment from which characters are taken. -/
def CarrierLink.line (l : CarrierLink) : Bool × Assembler × Nat := (l.txEnable, l.assembler, l.listenFrom)

@[simp] theorem CarrierLink.select_line (l : CarrierLink) (c : Nat) : (l.select c).line = l.line := by simp [CarrierLink.line]

@[simp] theorem CarrierLink.emptyPeriodic_line (l : CarrierLink) (c : Nat) : (l.emptyPeriodic c).line = l.line := by
  simp [CarrierLink.line]

@[simp] theorem CarrierLink.setSlot_line (l : CarrierLink) (k : Slot) (q : Option Queued) : (l.setSlot k q).line = l.line := by
  cases k <;> rfl

@[simp] theorem State.offer_line (s : State) (k : Slot) (p : Payload) : (s.offer k p).link.line = s.link.line := by
  simp [CarrierLink.line]

@[simp] theorem State.raiseIf_mask (s : State) (b : Bool) (e : Event) : (s.raiseIf b e).port.mask = s.port.mask := by
  cases b <;> rfl

@[simp] theorem State.takeStormCount_mask (s : State) : s.takeStormCount.port.mask = s.port.mask := by
  rcases s.takeStormCount_cases with ⟨-, hport, -⟩ | ⟨-, -, hport, -⟩ <;> simp [hport]

@[simp] theorem State.settleArcs_mask (l : List ArcRecord) (s : State) : (s.settleArcs l).port.mask = s.port.mask := by
  induction l generalizing s with
  | nil => rfl
  | cons r rest ih =>
    unfold State.settleArcs
    split
    · rw [ih, State.logRecord, State.takeStormCount_mask]
    · rfl

@[simp] theorem State.changeArcs_mask (s : State) (l : List ArcRecord) : (s.changeArcs l).port.mask = s.port.mask := by
  unfold State.changeArcs
  split <;> simp

@[simp] theorem State.flushArcs_mask (s : State) : s.flushArcs.port.mask = s.port.mask := by
  unfold State.flushArcs
  split <;> simp

@[simp] theorem State.enterLowered_mask (s : State) : s.enterLowered.port.mask = s.port.mask := State.flushArcs_mask _

@[simp] theorem State.contactLeft_line (s : State) (down : Bool) : (s.contactLeft down).link.line = s.link.line := by
  simp only [State.contactLeft]
  (repeat' split) <;> simp

@[simp] theorem State.requestCrossing_line (s : State) : s.requestCrossing.link.line = s.link.line := by
  simp only [State.requestCrossing]
  (repeat' split) <;> simp

@[simp] theorem State.completeCrossing_mask (s : State) : s.completeCrossing.port.mask = s.port.mask := rfl

@[simp] theorem State.setInCrossing_mask (s : State) : s.setInCrossing.port.mask = s.port.mask := by
  simp only [State.setInCrossing]
  (repeat' split) <;> simp

@[simp] theorem State.setInShareEngine_mask (s : State) : s.setInShareEngine.port.mask = s.port.mask := by
  unfold State.setInShareEngine
  dsimp only
  split <;> simp

@[simp] theorem State.refusePeer_mask (s : State) : s.refusePeer.port.mask = s.port.mask := by
  simp only [State.refusePeer]
  (repeat' split) <;> simp

@[simp] theorem State.takePeer_mask (s : State) (p : Peer) : (s.takePeer p).port.mask = s.port.mask := by
  simp only [State.takePeer]
  (repeat' split) <;> simp

@[simp] theorem State.withHolds_mask (s : State) (l : List Hold) : (s.withHolds l).port.mask = s.port.mask := by
  simp only [State.withHolds]
  (repeat' split) <;> simp

@[simp] theorem State.takeShed_mask (s : State) (o : Address) (n : Nat) (r : Byte) : (s.takeShed o n r).port.mask = s.port.mask := by
  simp only [State.takeShed]
  (repeat' split) <;> simp

@[simp] theorem State.deferFrame_mask (s : State) (k : Slot) (q : Queued) : (s.deferFrame k q).port.mask = s.port.mask := by
  simp only [State.deferFrame]
  (repeat' split) <;> simp

@[simp] theorem State.deferFrame_line (s : State) (k : Slot) (q : Queued) : (s.deferFrame k q).link.line = s.link.line := by
  unfold State.deferFrame
  split
  · simp
  · exact CarrierLink.setSlot_line s.link k _

@[simp] theorem State.callShed_mask (s : State) (n : Nat) : (s.callShed n).port.mask = s.port.mask := by simp [State.callShed]

@[simp] theorem State.callShed_line (s : State) (n : Nat) : (s.callShed n).link.line = s.link.line := by simp [State.callShed]

@[simp] theorem State.repeatShed_mask (s : State) : s.repeatShed.port.mask = s.port.mask := s.callShed_mask _

@[simp] theorem State.repeatShed_line (s : State) : s.repeatShed.link.line = s.link.line := s.callShed_line _

@[simp] theorem State.setInFeeder_mask (s : State) : s.setInFeeder.port.mask = s.port.mask := by
  simp only [State.setInFeeder, State.setInRelease, State.setInRepeat]
  (repeat' split) <;> simp

@[simp] theorem State.setInFeeder_line (s : State) : s.setInFeeder.link.line = s.link.line := by
  simp only [State.setInFeeder, State.setInRelease, State.setInRepeat]
  (repeat' split) <;> simp

@[simp] theorem State.contactLoss_mask (s : State) : s.contactLoss.port.mask = s.port.mask := by
  simp only [State.contactLoss]
  (repeat' split) <;> simp

@[simp] theorem State.contactLoss_line (s : State) : s.contactLoss.link.line = s.link.line := by
  simp only [State.contactLoss]
  (repeat' split) <;> simp

@[simp] theorem State.sensorFaultSet_line (s : State) : s.sensorFaultSet.link.line = s.link.line := by
  unfold State.sensorFaultSet
  split <;> simp

@[simp] theorem State.setInRaising_mask (s : State) : s.setInRaising.port.mask = s.port.mask := by
  simp only [State.setInRaising, State.endRaise]
  (repeat' split) <;> simp

@[simp] theorem State.setInLowering_mask (s : State) : s.setInLowering.port.mask = s.port.mask := by
  simp only [State.setInLowering]
  (repeat' split) <;> simp

@[simp] theorem State.setInPantograph_mask (s : State) : s.setInPantograph.port.mask = s.port.mask := by
  simp only [State.setInPantograph]
  (repeat' split) <;> simp

@[simp] theorem State.passSet_mask (s : State) : s.passSet.port.mask = s.port.mask := by
  unfold State.passSet
  split <;> simp

@[simp] theorem State.passSet_line (s : State) : s.passSet.link.line = s.link.line := by
  unfold State.passSet
  split <;> simp

@[simp] theorem State.shareTick_line (s : State) : s.shareTick.link.line = s.link.line := by
  unfold State.shareTick State.computingTick
  split <;> simp

@[simp] theorem State.openedOnTruck_mask (s : State) (a b : Bool) : (s.openedOnTruck a b).port.mask = s.port.mask := by
  simp only [State.openedOnTruck]
  (repeat' split) <;> simp

@[simp] theorem State.openedOnTruck_line (s : State) (a b : Bool) : (s.openedOnTruck a b).link.line = s.link.line := by
  simp only [State.openedOnTruck]
  (repeat' split) <;> simp

@[simp] theorem State.openedOnFeeder_mask (s : State) (n : Nat) : (s.openedOnFeeder n).port.mask = s.port.mask := by
  unfold State.openedOnFeeder
  split <;> rfl

@[simp] theorem State.firstDecisions_mask (s : State) : s.firstDecisions.port.mask = s.port.mask := by
  unfold State.firstDecisions
  split <;> simp

@[simp] theorem State.firstDecisions_line (s : State) : s.firstDecisions.link.line = s.link.line := by
  unfold State.firstDecisions
  split <;> simp

end Sys2Proof.Machine

/-! ## What only named commands change: command by command -/

namespace Sys2Proof.Machine

/-- What no command but the named ones changes, with the clock. -/
structure Lasting where
  startup       : Startup
  clock         : Nat
  config        : Configuration
  loadResult    : LoadResult
  selfCheckWord : BitVec 16
  mask          : FlagSet
  line          : Bool × Assembler × Nat

def State.lasting (s : State) : Lasting where
  startup := s.startup
  clock := s.clock
  config := s.config
  loadResult := s.loadResult
  selfCheckWord := s.sweeper.selfCheckWord
  mask := s.port.mask
  line := s.link.line

/-- What O6 says of a command `c` that leads from `s` to `u`. -/
def State.ChangesAsNamed (s : State) (c : Instr) (u : State) : Prop :=
  u.config = s.config ∧ u.loadResult = s.loadResult ∧ s.clock ≤ u.clock ∧
  ((∀ t tests samples, c ≠ .selfcheckEnd t tests samples) →
    u.sweeper.selfCheckWord = s.sweeper.selfCheckWord ∧ u.startup = s.startup) ∧
  ((∀ t, c ≠ .transmitOn t) → (∀ t, c ≠ .transmitOff t) → u.link.txEnable = s.link.txEnable) ∧
  ((∀ t m, c ≠ .writeEventMask t m) → u.port.mask = s.port.mask) ∧
  ((∀ t a d r, c ≠ .demandReceived t a d r) → (∀ t a d r, c ≠ .supplyReceived t a d r) →
    (∀ t a d r, c ≠ .shedReceived t a d r) → (∀ t a r, c ≠ .departReceived t a r) →
    (∀ l, c ≠ .receiveGapTimeout l) → (∀ l, c ≠ .framingError l) → (∀ t l, c ≠ .headerTestFailed t l) →
    ((∀ t b, c ≠ .frameDue t b) → u.link.assembler = s.link.assembler) ∧
    ((∀ t, c ≠ .transmissionEnd t) → u.link.listenFrom = s.link.listenFrom))

theorem State.clock_le_takenAt (t : Nat) (s : State) : s.clock ≤ (s.takenAt t).clock := by
  simp only [State.takenAt]
  split
  · exact le_max_left _ _
  · exact le_rfl

/-- The command takes its moment and changes nothing of what lasts. -/
def State.LastsBy (s : State) (r : Result) : Prop := ∃ t, ∀ u, r = .next u → u.lasting = (s.takenAt t).lasting

theorem State.LastsBy.changesAsNamed {s u : State} {r : Result} (h : s.LastsBy r) (hu : r = .next u) (c : Instr) :
    s.ChangesAsNamed c u := by
  obtain ⟨t, ht⟩ := h
  have hview := ht u hu
  simp only [State.lasting, CarrierLink.line, Lasting.mk.injEq, Prod.mk.injEq] at hview
  obtain ⟨hstartup, hclock, hconfig, hload, hword, hmask, htransmit, hassembler, hlisten⟩ := hview
  exact ⟨hconfig, hload, hclock ▸ s.clock_le_takenAt t, fun _ => ⟨hword, hstartup⟩, fun _ _ => htransmit, fun _ => hmask,
    fun _ _ _ _ _ _ _ => ⟨fun _ => hassembler, fun _ => hlisten⟩⟩

namespace State.LastsBy

variable {s : State}

theorem next (t : Nat) {u : State} (h : u.lasting = (s.takenAt t).lasting) : s.LastsBy (.next u) :=
  ⟨t, by rintro _ ⟨⟩; exact h⟩

theorem port (t : Nat) {body : State → State} (h : ∀ a : State, (body a).lasting = a.lasting) :
    s.LastsBy (.next (onPort t s body)) := by
  refine .next t ?_
  unfold onPort
  dsimp only
  split
  · rfl
  · rfl
  · rfl
  · exact h _

theorem truck (t : Nat) {body : State → State} (h : ∀ a : State, (body a).lasting = a.lasting) :
    s.LastsBy (.next (onPort t s fun a => truckOnly a body)) := by
  refine .port t fun a => ?_
  unfold truckOnly
  split
  · exact h a
  · rfl

theorem event (t : Nat) {b : Bool} {u : State} (h : u.lasting = (s.takenAt t).lasting) :
    s.LastsBy (.next (if b then u else s.takenAt t)) := by
  refine .next t ?_
  split
  · exact h
  · rfl

end State.LastsBy

/-! ### The parts of the state the commands change -/

@[simp] theorem Sweeper.restart_selfCheckWord (w : Sweeper) (c : Nat) : (w.restart c).selfCheckWord = w.selfCheckWord := by
  simp only [Sweeper.restart]
  (repeat' split) <;> rfl

@[simp] theorem Sweeper.handPair_selfCheckWord (w : Sweeper) (x : HeldSample) (v : Code) :
    (w.handPair x v).selfCheckWord = w.selfCheckWord := by
  simp only [Sweeper.handPair, Sweeper.keepPairEnd]
  (repeat' split) <;> rfl

@[simp] theorem Sweeper.finishSweep_publish_selfCheckWord (w : Sweeper) (v : Vector Code 18) (c : Nat) :
    ((w.publish v).finishSweep c).selfCheckWord = w.selfCheckWord := rfl

@[simp] theorem Sweeper.finishTest_selfCheckWord (w : Sweeper) (b : Bool) (c : Nat) :
    (w.finishTest b c).selfCheckWord = w.selfCheckWord := rfl

@[simp] theorem State.feederTick_line (s : State) : s.feederTick.link.line = s.link.line := s.offer_line _ _

@[simp] theorem State.firstDecisions_settings (s : State) : s.firstDecisions.config = s.config ∧
    s.firstDecisions.loadResult = s.loadResult ∧ s.firstDecisions.clock = s.clock := by
  unfold State.firstDecisions
  split <;> simp

@[simp] theorem CarrierLink.warmReset_line (l : CarrierLink) : l.warmReset.line = l.line := rfl

/-- A change of these blocks changes nothing of what lasts. -/
theorem State.lasting_congr {s u : State} (hstartup : u.startup = s.startup) (hclock : u.clock = s.clock) (hconfig : u.config = s.config)
    (hload : u.loadResult = s.loadResult) (hword : u.sweeper.selfCheckWord = s.sweeper.selfCheckWord)
    (hmask : u.port.mask = s.port.mask) (hline : u.link.line = s.link.line) : u.lasting = s.lasting := by
  simp only [State.lasting, hstartup, hclock, hconfig, hload, hword, hmask, hline]

theorem State.warmReset_lasting (s : State) : s.warmReset.lasting = s.lasting := by
  apply State.lasting_congr <;> simp [State.warmReset, Sweeper.warmReset, State.warmResetShare, State.warmResetLimit]

theorem State.lossInUnloading_lasting (s : State) : s.lossInUnloading.lasting = s.lasting := by
  unfold State.lossInUnloading
  split <;> rfl

/-- A character taken, and a frame it completes, change the receiver alone of what lasts. -/
theorem State.takeFrame_lasting (s : State) (f : Frame) (crc : Half) : (s.takeFrame f crc).lasting = s.lasting := by
  simp only [State.takeFrame, State.handOn]
  (repeat' split) <;> apply State.lasting_congr <;> simp

/-- What lasts, but for the receiver. -/
def State.lastingOffLine (s : State) : Lasting := { s.lasting with line := (s.link.txEnable, .waiting, 0) }

theorem State.lastingOffLine_of_lasting {s u : State} (h : u.lasting = s.lasting) : u.lastingOffLine = s.lastingOffLine := by
  have hline : u.link.line = s.link.line := congrArg Lasting.line h
  simp only [State.lastingOffLine, h, show u.link.txEnable = s.link.txEnable from congrArg Prod.fst hline]

theorem State.takeCharacter_lastingOffLine (s : State) (c : Character) : (s.takeCharacter c).lastingOffLine = s.lastingOffLine := by
  simp only [State.takeCharacter]
  split
  · split
    · exact (State.lastingOffLine_of_lasting (State.takeFrame_lasting _ _ _)).trans rfl
    · rfl
  · rfl

theorem State.hear_lastingOffLine (l : List Character) (s : State) : (s.hear l).lastingOffLine = s.lastingOffLine := by
  induction l generalizing s with
  | nil => rfl
  | cons c rest ih => exact (ih _).trans (s.takeCharacter_lastingOffLine c)

/-- A command of the line changes the receiver alone of what lasts. -/
theorem State.changesAsNamed_of_offLine {s u : State} {t : Nat} {c : Instr} (h : u.lastingOffLine = (s.takenAt t).lastingOffLine)
    (hline : ¬ ((∀ t a d r, c ≠ .demandReceived t a d r) ∧ (∀ t a d r, c ≠ .supplyReceived t a d r) ∧
      (∀ t a d r, c ≠ .shedReceived t a d r) ∧ (∀ t a r, c ≠ .departReceived t a r) ∧
      (∀ l, c ≠ .receiveGapTimeout l) ∧ (∀ l, c ≠ .framingError l) ∧ (∀ t l, c ≠ .headerTestFailed t l))) :
    s.ChangesAsNamed c u := by
  simp only [State.lastingOffLine, State.lasting, Lasting.mk.injEq, Prod.mk.injEq] at h
  obtain ⟨hstartup, hclock, hconfig, hload, hword, hmask, htransmit, -⟩ := h
  exact ⟨hconfig, hload, hclock ▸ s.clock_le_takenAt t, fun _ => ⟨hword, hstartup⟩, fun _ _ => htransmit, fun _ => hmask,
    fun h1 h2 h3 h4 h5 h6 h7 => absurd ⟨h1, h2, h3, h4, h5, h6, h7⟩ hline⟩

/-! ### The commands that are not named -/

/-- The commands O6 names. -/
def Instr.named (c : Instr) : Bool :=
  match c with
  | .powerOnReset => true
  | .resetNRelease => true
  | .configurationLoadEnd _ => true
  | .selfcheckEnd _ _ _ => true
  | .transmitOn _ => true
  | .transmitOff _ => true
  | .writeEventMask _ _ => true
  | .demandReceived _ _ _ _ => true
  | .supplyReceived _ _ _ _ => true
  | .shedReceived _ _ _ _ => true
  | .departReceived _ _ _ => true
  | .receiveGapTimeout _ => true
  | .framingError _ => true
  | .headerTestFailed _ _ => true
  | .frameDue _ _ => true
  | .transmissionEnd _ => true
  | _ => false

theorem State.lastsBy_exec (s : State) (c : Instr) (hc : Instr.named c = false) : s.LastsBy (exec c s) := by
  cases c with
  | powerOnReset | resetNRelease | configurationLoadEnd _ | selfcheckEnd _ _ _ | transmitOn _ | transmitOff _ | writeEventMask _ _
  | demandReceived _ _ _ _ | supplyReceived _ _ _ _ | shedReceived _ _ _ _ | departReceived _ _ _ | receiveGapTimeout _
  | framingError _ | headerTestFailed _ _ | frameDue _ _ | transmissionEnd _ => exact absurd hc (by simp [Instr.named])
  | readStatus t | readEvents t | clearEvents t _ | readBudget t | readHolds t | readMeasurements t | readConfig t
  | readIdentity t | warmReset t => exact .port t fun a => rfl
  | writeDemand t demand cls => exact .port t fun a => by dsimp only; split <;> rfl
  | writeCap t cap => exact .port t fun a => by apply State.lasting_congr <;> simp
  | sectionAhead t => exact .port t fun a => by apply State.lasting_congr <;> simp
  | raise t emlower => exact .truck t fun a => by (repeat' split) <;> rfl
  | lower t => exact .truck t fun a => by split <;> apply State.lasting_congr <;> simp
  | clearFault t => exact .truck t fun a => by (repeat' split) <;> apply State.lasting_congr <;> simp
  | readPeer t index => exact .port t fun a => by (repeat' split) <;> rfl
  | readArc t index => exact .port t fun a => by (repeat' split) <;> rfl
  | unknownCommand t code =>
    change s.LastsBy (execUnknownCommand t code s)
    unfold execUnknownCommand
    split
    · exact .port t fun a => rfl
    · exact .next t rfl
  | transactionAbandoned t bytes => exact .next t rfl
  | warmResetTaken t => exact .event t ((State.warmReset_lasting _).trans rfl)
  | warmNFall t => exact .event t (State.warmReset_lasting _)
  | cycleTick t =>
    refine .event t ?_
    dsimp only
    split <;> apply State.lasting_congr <;> simp
  | listenTimerExpiry t | overflowTimerExpiry t | crossingTimerExpiry t => exact .event t rfl
  | collapseTimerExpiry t => exact .event t (by apply State.lasting_congr <;> simp)
  | holdExpiry t => exact .next t (by (repeat' split) <;> rfl)
  | entryBecomesStale t address | entryRemovedByAge t address => exact .next t rfl
  | sweepComplete t samples => exact .next t (by (repeat' split) <;> apply State.lasting_congr <;> simp)
  | openWireTestComplete t test =>
    refine .next t ?_
    dsimp only
    (repeat' split) <;> apply State.lasting_congr <;> simp
  | measurementPairHanded t sample =>
    refine .next t ?_
    dsimp only
    (repeat' split) <;> apply State.lasting_congr <;> simp
  | channel0SampleHeld t sample =>
    refine .next t ?_
    dsimp only
    (repeat' split) <;> rfl
  | arcStart t => exact .event t (by apply State.lasting_congr <;> simp)
  | arcEnd t => exact .event t (by apply State.lasting_congr <;> simp)
  | arcSaturation t => exact .next t (by apply State.lasting_congr <;> simp)
  | sectAheadFall t => exact .event t (by apply State.lasting_congr <;> simp)
  | emlowerNFall t => exact .event t (by split <;> apply State.lasting_congr <;> simp)
  | contactQualificationExpiry t => exact .event t (by apply State.lasting_congr <;> simp)
  | raiseTimerExpiry t | unloadTimerExpiry t | lowerTimerExpiry t => exact .event t rfl
  | lossTimerExpiry t =>
    refine .event t ?_
    split
    · apply State.lasting_congr <;> simp
    · exact State.lossInUnloading_lasting _
    all_goals rfl
  | imbalanceTimerExpiry t => exact .event t (by apply State.lasting_congr <;> simp)
  | overTimerExpiry t => exact .event t (by apply State.lasting_congr <;> simp)
  | repeatTimerExpiry t => exact .event t (by split <;> apply State.lasting_congr <;> simp)
  | releaseTimerExpiry t => exact .event t (by apply State.lasting_congr <;> simp)
  | periodBoundary t => exact .event t (by dsimp only; split <;> rfl)
  | limitPulseEnd t | lstbPulseEnd t | actuatorPeriodBoundary t | actuatorPulseEnd t => exact .event t rfl

/-! ### The named commands -/

section
variable {s u : State} (t : Nat)

theorem changesAsNamed_writeEventMask (mask : FlagSet) (h : exec (.writeEventMask t mask) s = .next u) :
    s.ChangesAsNamed (.writeEventMask t mask) u := by
  obtain rfl : onPort t s _ = u := Host.Outcome.next.inj h
  have hclock := s.clock_le_takenAt t
  unfold onPort
  dsimp only
  split <;> exact ⟨rfl, rfl, hclock, fun _ => ⟨rfl, rfl⟩, fun _ _ => rfl, fun hc => absurd rfl (hc t mask),
    fun _ _ _ _ _ _ _ => ⟨fun _ => rfl, fun _ => rfl⟩⟩

theorem changesAsNamed_transmitOn (h : exec (.transmitOn t) s = .next u) : s.ChangesAsNamed (.transmitOn t) u := by
  obtain rfl : onPort t s _ = u := Host.Outcome.next.inj h
  have hclock := s.clock_le_takenAt t
  unfold onPort
  dsimp only
  split <;> exact ⟨rfl, rfl, hclock, fun _ => ⟨rfl, rfl⟩, fun hc => absurd rfl (hc t), fun _ => rfl,
    fun _ _ _ _ _ _ _ => ⟨fun _ => rfl, fun _ => rfl⟩⟩

theorem changesAsNamed_transmitOff (h : exec (.transmitOff t) s = .next u) : s.ChangesAsNamed (.transmitOff t) u := by
  obtain rfl : onPort t s _ = u := Host.Outcome.next.inj h
  have hclock := s.clock_le_takenAt t
  simp only [State.ChangesAsNamed, onPort]
  split
  case h_4 =>
    (repeat' split) <;> simp [hclock]
  all_goals exact ⟨rfl, rfl, hclock, fun _ => ⟨rfl, rfl⟩, fun _ hc => absurd rfl (hc t), fun _ => rfl,
    fun _ _ _ _ _ _ _ => ⟨fun _ => rfl, fun _ => rfl⟩⟩

theorem changesAsNamed_selfcheckEnd (tests : Vector WireTest 8) (samples : Vector Code 18)
    (h : exec (.selfcheckEnd t tests samples) s = .next u) : s.ChangesAsNamed (.selfcheckEnd t tests samples) u := by
  obtain rfl := Host.Outcome.next.inj h
  have hclock := s.clock_le_takenAt t
  split
  · have hline : ∀ (x : State) (b : Bool) (e : Event), (x.raiseIf b e).firstDecisions.link.line = x.link.line := by simp
    refine ⟨by simp, by simp, by simpa using hclock, fun hc => absurd rfl (hc t tests samples), fun _ _ => ?_, fun _ => by simp,
      fun _ _ _ _ _ _ _ => ⟨fun _ => ?_, fun _ => ?_⟩⟩
    · exact congrArg Prod.fst (hline _ _ _)
    · exact congrArg (·.2.1) (hline _ _ _)
    · exact congrArg (·.2.2) (hline _ _ _)
  · exact ⟨rfl, rfl, hclock, fun _ => ⟨rfl, rfl⟩, fun _ _ => rfl, fun _ => rfl,
      fun _ _ _ _ _ _ _ => ⟨fun _ => rfl, fun _ => rfl⟩⟩

/-- A frame sent drops the frame in assembly and changes nothing else of what lasts (R105). -/
theorem changesAsNamed_frameDue (carrier : Bool) (h : exec (.frameDue t carrier) s = .next u) :
    s.ChangesAsNamed (.frameDue t carrier) u := by
  obtain rfl := Host.Outcome.next.inj h
  have hclock := s.clock_le_takenAt t
  have hplain : ∀ v : State, v.lasting = (s.takenAt t).lasting → s.ChangesAsNamed (.frameDue t carrier) v := fun v hv =>
    (State.LastsBy.next t hv).changesAsNamed rfl _
  split
  next k due hwaiting =>
    split
    · split
      next q hslot =>
        split
        · exact hplain _ (by apply State.lasting_congr <;> simp)
        · have hline : ((s.takenAt t).link.setSlot k none).line = s.link.line := by simp
          exact ⟨rfl, rfl, hclock, fun _ => ⟨rfl, rfl⟩, fun _ _ => congrArg Prod.fst hline, fun _ => rfl,
            fun _ _ _ _ _ _ _ => ⟨fun hc => absurd rfl (hc t carrier), fun _ => congrArg (·.2.2) hline⟩⟩
      next => exact hplain _ (by apply State.lasting_congr <;> simp)
    · exact hplain _ rfl
  all_goals exact hplain _ rfl

/-- The end of a transmission opens the receiver again and changes nothing else of what lasts (R105). -/
theorem changesAsNamed_transmissionEnd (h : exec (.transmissionEnd t) s = .next u) : s.ChangesAsNamed (.transmissionEnd t) u := by
  obtain rfl := Host.Outcome.next.inj h
  have hclock := s.clock_le_takenAt t
  have hplain : s.ChangesAsNamed (.transmissionEnd t) (s.takenAt t) := (State.LastsBy.next t rfl).changesAsNamed rfl _
  split
  · split
    · have hline : ((s.takenAt t).link.select (s.takenAt t).clock).line = s.link.line := by simp
      exact ⟨rfl, rfl, hclock, fun _ => ⟨rfl, rfl⟩, fun _ _ => congrArg Prod.fst hline, fun _ => rfl,
        fun _ _ _ _ _ _ _ => ⟨fun _ => congrArg (·.2.1) hline, fun hc => absurd rfl (hc t)⟩⟩
    · exact hplain
  all_goals exact hplain

theorem changesAsNamed_receiveGapTimeout (heard : Heard) (h : exec (.receiveGapTimeout heard) s = .next u) :
    s.ChangesAsNamed (.receiveGapTimeout heard) u := by
  obtain rfl := Host.Outcome.next.inj h
  have hheard := State.hear_lastingOffLine heard.characters (s.takenAt heard.t)
  refine State.changesAsNamed_of_offLine (t := heard.t) ?_ fun hc => hc.2.2.2.2.1 _ rfl
  split
  · exact Eq.trans rfl hheard
  · exact hheard

end

/-! ### Every command -/

theorem State.changesAsNamed_exec {s u : State} {c : Instr} (h : exec c s = .next u) (hpower : c ≠ .powerOnReset)
    (hrelease : c ≠ .resetNRelease) (hload : ∀ b, c ≠ .configurationLoadEnd b) : s.ChangesAsNamed c u := by
  cases c with
  | powerOnReset => exact absurd rfl hpower
  | resetNRelease => exact absurd rfl hrelease
  | configurationLoadEnd b => exact absurd rfl (hload b)
  | writeEventMask t mask => exact changesAsNamed_writeEventMask t mask h
  | transmitOn t => exact changesAsNamed_transmitOn t h
  | transmitOff t => exact changesAsNamed_transmitOff t h
  | selfcheckEnd t tests samples => exact changesAsNamed_selfcheckEnd t tests samples h
  | frameDue t carrier => exact changesAsNamed_frameDue t carrier h
  | transmissionEnd t => exact changesAsNamed_transmissionEnd t h
  | receiveGapTimeout heard => exact changesAsNamed_receiveGapTimeout heard h
  | demandReceived t a d r =>
    obtain rfl := Host.Outcome.next.inj h
    exact State.changesAsNamed_of_offLine (State.hear_lastingOffLine _ _) fun hc => hc.1 _ _ _ _ rfl
  | supplyReceived t a d r =>
    obtain rfl := Host.Outcome.next.inj h
    exact State.changesAsNamed_of_offLine (State.hear_lastingOffLine _ _) fun hc => hc.2.1 _ _ _ _ rfl
  | shedReceived t a d r =>
    obtain rfl := Host.Outcome.next.inj h
    exact State.changesAsNamed_of_offLine (State.hear_lastingOffLine _ _) fun hc => hc.2.2.1 _ _ _ _ rfl
  | departReceived t a r =>
    obtain rfl := Host.Outcome.next.inj h
    exact State.changesAsNamed_of_offLine (State.hear_lastingOffLine _ _) fun hc => hc.2.2.2.1 _ _ _ rfl
  | framingError heard =>
    obtain rfl := Host.Outcome.next.inj h
    exact State.changesAsNamed_of_offLine (State.hear_lastingOffLine _ _) fun hc => hc.2.2.2.2.2.1 _ rfl
  | headerTestFailed t l =>
    obtain rfl := Host.Outcome.next.inj h
    exact State.changesAsNamed_of_offLine (State.hear_lastingOffLine _ _) fun hc => hc.2.2.2.2.2.2 _ _ rfl
  | _ => exact State.LastsBy.changesAsNamed (s.lastsBy_exec _ rfl) h _

/-- Settles O6: the named commands one by one, and every other by what it leaves alone. -/
theorem onlyNamedCommandsChangeLastingState : Obligations.OnlyNamedCommandsChangeLastingState :=
  fun _ _ _ h hpower hrelease hload => State.changesAsNamed_exec h hpower hrelease hload

end Sys2Proof.Machine

/-! ## The queue and time, the outputs of the Limit Generator and the actuator, and the fields received -/

namespace Sys2Proof.Machine

/-! ### The queue and time -/

/-- Settles O1. -/
theorem stepTakesTheFrontCommand : Obligations.StepTakesTheFrontCommand := by
  intro c rest s
  rfl

theorem step_of_pending_nil {s : State} (h : s.pending = []) : step s = .next s.idle := by
  rw [step, h]

theorem State.idle_of_not_running {s : State} (h : s.running = false) : s.idle = s := by
  simp [State.idle, h]

theorem State.idle_of_running {s : State} (h : s.running = true) :
    s.idle = { s with
      clock := s.clock + 1
      pending := ({ s with clock := s.clock + 1 } : State).ownEvents } := by
  simp [State.idle, h]

theorem State.takenAt_of_not_running (t : Nat) {s : State} (h : s.running = false) : s.takenAt t = s := by
  simp [State.takenAt, h]

/-- Settles O2, by whether the timebases run. -/
theorem timePassesOnAnEmptyQueue : Obligations.TimePassesOnAnEmptyQueue := by
  refine ⟨fun s hempty => ?_, fun t s => ⟨s.takenAt_eq t, State.takenAt_of_not_running t⟩⟩
  rw [step_of_pending_nil hempty]
  exact ⟨fun h => congrArg _ (State.idle_of_not_running h), fun h => congrArg _ (State.idle_of_running h)⟩

/-! ### Immediate caps -/

/-- R65: a cap below the limit becomes the limit, and the present period is cut to it. -/
theorem State.immediateCap_of_lt {s : State} {cap : Nat} (h : cap < s.lim.limit) :
    s.immediateCap cap = State.cutPeriod { s with lim := { s.lim with limit := cap } } := if_pos h

/-- Settles O20, by whether the cap lies below the limit and then below the period value. -/
theorem immediateCapOnlyLowersTheLimit : Obligations.ImmediateCapOnlyLowersTheLimit := by
  intro s cap
  refine ⟨s.immediateCap_of_le cap, s.immediateCap_limit cap, s.immediateCap_lastTarget cap, s.immediateCap_nextBoundary cap,
    fun hlimit hperiod => ?_, fun hlimit hperiod => ?_, s.immediateCap_frame cap⟩
  · rw [State.immediateCap_of_lt hlimit, State.cutPeriod_of_le hperiod]
  · rw [State.immediateCap_of_lt hlimit]
    refine ⟨by simpa using hperiod.le, ?_, fun hoff => ?_, fun hon => ?_⟩
    · by_cases hoff : s.config.strobeMode = .off
      · rw [State.cutPeriod_lim_of_off (s := { s with lim := { s.lim with limit := cap } }) hperiod hoff]
        rfl
      · rw [State.cutPeriod_lim_of_on (s := { s with lim := { s.lim with limit := cap } }) hperiod hoff]
        rfl
    · rw [State.cutPeriod_lim_of_off (s := { s with lim := { s.lim with limit := cap } }) hperiod hoff]
      exact ⟨rfl, rfl⟩
    · rw [State.cutPeriod_lim_of_on (s := { s with lim := { s.lim with limit := cap } }) hperiod hon]
      exact ⟨rfl, rfl, rfl, rfl⟩

/-! ### Period boundaries and pulse ends -/

/-- The next boundary of a period of `p` µs lies on its grid, after the clock and at most one period after it. -/
theorem nextBoundary_on_grid (c p : Nat) (hp : 0 < p) :
    (c / p + 1) * p % p = 0 ∧ c < (c / p + 1) * p ∧ (c / p + 1) * p ≤ c + p := by
  have hdiv := Nat.div_add_mod c p
  have hmod := Nat.mod_lt c hp
  have hmul : (c / p + 1) * p = p * (c / p) + p := by ring
  exact ⟨Nat.mul_mod_left _ _, by omega, by omega⟩

/-- R72: a boundary gives a pulse where the limit, now the period value, is not the one marked, or in mode 2 by the mark. -/
theorem State.boundaryStrobes_beginLimitPeriod (s : State) :
    s.beginLimitPeriod.boundaryStrobes = true ↔
      s.config.strobeMode ≠ .off ∧ (s.lim.limit ≠ s.lim.markedValue ∨
        s.config.strobeMode = .everyApplication ∧ s.lim.applicationMark = true) := by
  cases hmode : s.config.strobeMode <;> simp [State.boundaryStrobes, State.beginLimitPeriod, hmode]

/-- A running part takes a period boundary that has come. -/
theorem exec_periodBoundary {t : Nat} {s : State} (hrunning : s.running = true) (hdue : s.lim.nextBoundary ≤ max s.clock t) :
    exec (.periodBoundary t) s = .next (if (s.takenAt t).beginLimitPeriod.boundaryStrobes
      then (s.takenAt t).beginLimitPeriod.strobe else (s.takenAt t).beginLimitPeriod) := by
  change execPeriodBoundary t s = _
  rw [execPeriodBoundary, State.takenAt_eq t s hrunning]
  exact congrArg Host.Outcome.next (if_pos (Bool.and_eq_true_iff.2 ⟨hrunning, decide_eq_true hdue⟩))

theorem exec_limitPulseEnd {t : Nat} {s : State} (hrunning : s.running = true) :
    exec (.limitPulseEnd t) s = .next
      (if s.lim.limitOut && decide (s.lim.nextBoundary + s.lim.periodValue ≤ max s.clock t + 4096) then
        { s with clock := max s.clock t, lim := { s.lim with limitOut := false } }
      else { s with clock := max s.clock t }) := by
  change execLimitPulseEnd t s = _
  rw [execLimitPulseEnd, State.takenAt_eq t s hrunning]

theorem exec_lstbPulseEnd {t : Nat} {s : State} (hrunning : s.running = true) :
    exec (.lstbPulseEnd t) s = .next
      (if s.lim.lstbOut && decide (s.lim.lstbUntil ≤ max s.clock t) then
        { s with clock := max s.clock t, lim := { s.lim with lstbOut := false } }
      else { s with clock := max s.clock t }) := by
  change execLstbPulseEnd t s = _
  rw [execLstbPulseEnd, State.takenAt_eq t s hrunning]

/-- Settles O22, command by command; a boundary by whether it gives a pulse. -/
theorem limitOutputFollowsThePeriod : Obligations.LimitOutputFollowsThePeriod := by
  intro t s hstage
  have hrunning : s.running = true := by
    rcases hstage with h | h <;> simp [State.running, h]
  refine ⟨fun hdue => ⟨_, exec_periodBoundary hrunning hdue, ?_⟩, fun hhigh hdue => ?_, fun hnotDue => ?_, fun hhigh hdue => ?_,
    fun hnotDue => ?_⟩
  · have hgrid := nextBoundary_on_grid (max s.clock t) 4096 (by decide)
    have hstrobes := State.boundaryStrobes_beginLimitPeriod (s.takenAt t)
    rw [State.takenAt_eq t s hrunning] at hstrobes ⊢
    obtain ⟨hmod, hafter, hwithin⟩ := hgrid
    split
    · next h =>
      exact ⟨rfl, rfl, rfl, by simp [State.strobe, State.beginLimitPeriod], hmod, hafter, hwithin,
        fun pulses hpulses => ⟨fun _ => ⟨rfl, rfl, rfl, rfl⟩, fun hno => absurd (hpulses.2 (hstrobes.1 h)) hno⟩, rfl⟩
    · next h =>
      exact ⟨rfl, rfl, rfl, by simp [State.beginLimitPeriod], hmod, hafter, hwithin,
        fun pulses hpulses => ⟨fun hyes => absurd (hstrobes.2 (hpulses.1 hyes)) h, fun _ => ⟨rfl, rfl, rfl⟩⟩, rfl⟩
  · rw [exec_limitPulseEnd hrunning, if_pos (by simp [hhigh, hdue])]
  · rw [exec_limitPulseEnd hrunning, if_neg (by simp [hnotDue])]
  · rw [exec_lstbPulseEnd hrunning, if_pos (by simp [hhigh, hdue])]
  · rw [exec_lstbPulseEnd hrunning, if_neg (by simp [Nat.not_le.2 hnotDue, -sup_le_iff])]

/-- The actuator's period boundary that has come (R121, R135). -/
theorem exec_actuatorPeriodBoundary {t : Nat} {s : State} (hready : s.startup = .ready)
    (hdue : s.panto.nextBoundary ≤ max s.clock t) :
    exec (.actuatorPeriodBoundary t) s = .next { s with clock := max s.clock t, panto := { s.panto with
        dutyInForce := if s.isTruck then s.driveDuty else 0
        actDirOut := s.isTruck && s.panto.state.up
        actPwmOut := decide (0 < if s.isTruck then s.driveDuty else 0)
        nextBoundary := (max s.clock t / 50 + 1) * 50 } } := by
  change execActuatorPeriodBoundary t s = _
  rw [execActuatorPeriodBoundary, State.takenAt_of_ready t s hready]
  exact congrArg Host.Outcome.next (if_pos (by simp [State.running, hready, hdue]))

theorem exec_actuatorPulseEnd {t : Nat} {s : State} (hready : s.startup = .ready) :
    exec (.actuatorPulseEnd t) s = .next
      (if s.panto.actPwmOut && decide (s.panto.dutyInForce * 50 ≤ 256 * (max s.clock t + 50 - s.panto.nextBoundary)) then
        { s with clock := max s.clock t, panto := { s.panto with actPwmOut := false } }
      else { s with clock := max s.clock t }) := by
  change execActuatorPulseEnd t s = _
  rw [execActuatorPulseEnd, State.takenAt_of_ready t s hready]

theorem PantoState.up_iff (p : PantoState) : p.up = true ↔ p = .raising ∨ p = .contact ∨ p = .unloading := by
  cases p <;> simp [PantoState.up]

/-- Settles O43. -/
theorem actuatorTakesTheDriveOfTheState : Obligations.ActuatorTakesTheDriveOfTheState := by
  intro t s hready
  refine ⟨fun hdue => ⟨_, exec_actuatorPeriodBoundary hready hdue, fun htruck => ?_, fun hfeeder => ?_, ?_, ?_⟩, fun hhigh => ?_⟩
  · refine ⟨?_, ?_⟩
    · simp only [htruck, if_true]
      rfl
    · simp only [htruck, Bool.true_and]
      exact s.panto.state.up_iff
  · simp [hfeeder]
  · simp
  · obtain ⟨hmod, hafter, hwithin⟩ := nextBoundary_on_grid (max s.clock t) 50 (by decide)
    exact ⟨hmod, hafter, hwithin, rfl⟩
  · rw [exec_actuatorPulseEnd hready]
    exact ⟨fun hdue => by rw [if_pos (by simp [hhigh, hdue])], fun hnotDue => by rw [if_neg (by simp [hnotDue])]⟩

/-! ### Fields received -/

theorem takenMode_eq (b : Byte) : takenMode b = if b = 1 then 1 else if b = 2 then 2 else 3 := by
  unfold takenMode
  simp only [← BitVec.toNat_inj]
  (repeat' split) <;> simp_all
  omega

theorem takenWeight_eq (b : Byte) : clampTo 1 15 b.toNat = if b = 0 then 1 else min 15 b.toNat := by
  unfold clampTo
  split
  · next h => simp [h]
  · next h =>
    have : 0 < b.toNat := Nat.pos_of_ne_zero fun h0 => h (BitVec.eq_of_toNat_eq h0)
    omega

/-- Settles O23, field by field. -/
theorem receivedFieldsAreClamped : Obligations.ReceivedFieldsAreClamped := by
  refine ⟨fun p => ⟨?_, rfl⟩, fun p => ⟨rfl, rfl⟩, fun p => rfl⟩
  rw [takenDemand, takenMode_eq, takenWeight_eq]

end Sys2Proof.Machine

/-! ## Phases, the collapse timer, the pantograph's timers and the storm count -/

namespace Sys2Proof.Machine

/-! ### LISTEN and ACTIVE -/

/-- R47: a truck OFFLINE listens once contact is made; a feeder's phase is not moved. -/
theorem State.contactEntered_of_offline {s : State} (htruck : s.isTruck = true) (hoffline : s.share.phase = .offline) :
    s.contactEntered = s.enterListen := by
  simp [State.contactEntered, htruck, hoffline]

theorem State.contactEntered_of_feeder {s : State} (hfeeder : s.isTruck = false) : s.contactEntered = s := by
  simp [State.contactEntered, hfeeder]

/-- The pantograph as contact is made (R125, R127). -/
def State.contactPanto (s : State) : Pantograph :=
  { s.panto.enter .contact with holdDuty := holdBand s.config.holdMin s.config.holdMax s.config.holdStart }

/-- Contact made at the moment `t`, the Share Engine not yet told. -/
def State.contactMade (s : State) (t : Nat) : State :=
  { s with clock := max s.clock t, panto := s.contactPanto, port := s.port.raise .contactMade }

theorem exec_contactQualificationExpiry {t d : Nat} {s : State} (hready : s.startup = .ready)
    (hraising : s.panto.state = .raising) (htimer : s.panto.qualTimer = some d) (hdue : d ≤ max s.clock t) :
    exec (.contactQualificationExpiry t) s = .next (s.contactMade t).contactEntered := by
  change execContactQualificationExpiry t s = _
  rw [execContactQualificationExpiry, State.takenAt_of_ready t s hready]
  exact congrArg Host.Outcome.next (if_pos (by simp [hraising, htimer, State.due_some, hdue]))

theorem exec_listenTimerExpiry {t d : Nat} {s : State} (hready : s.startup = .ready) (hlisten : s.share.phase = .listen)
    (htimer : s.share.listenTimer = some d) :
    exec (.listenTimerExpiry t) s = .next (if d ≤ max s.clock t then
        { s with clock := max s.clock t, share := { s.share with phase := .active, listenTimer := none } }
      else { s with clock := max s.clock t }) := by
  change execListenTimerExpiry t s = _
  rw [execListenTimerExpiry, State.takenAt_of_ready t s hready]
  simp [hlisten, htimer, State.due_some]

/-- Settles O32, command by command. -/
theorem contactLeadsThroughListenToActive : Obligations.ContactLeadsThroughListenToActive := by
  refine ⟨fun t d s hready hraising htimer hdue => ⟨_, exec_contactQualificationExpiry hready hraising htimer hdue, ?_⟩,
    fun t d s hready hlisten htimer => ?_⟩
  · refine ⟨by simp [State.contactMade, State.contactPanto, Pantograph.enter, holdBand],
      by simp [State.contactMade], fun htruck hoffline => ?_, fun hfeeder => ?_, ?_⟩
    · exact congrArg State.share (State.contactEntered_of_offline (s := s.contactMade t) htruck hoffline)
    · rw [State.contactEntered_of_feeder (s := s.contactMade t) hfeeder]
      rfl
    · exact (s.contactMade t).contactEntered_frame.trans (by simp [State.contactMade])
  · rw [exec_listenTimerExpiry hready hlisten htimer]
    exact ⟨fun hdue => by rw [if_pos hdue], fun hnotDue => by rw [if_neg (Nat.not_le.2 hnotDue)]⟩

/-! ### The collapse timer (R84, R86) -/

/-- The line has collapsed: channel 1 valid and below V_collapse (R84). -/
def State.lineCollapsed (s : State) : Prop := s.validChannel 1 = true ∧ s.code 1 < s.config.vCollapse

/-- A truck answers a collapse: ACTIVE, not SILENT and out of an episode (R84). -/
def State.answersCollapse (s : State) : Prop := s.share.phase = .active ∧ s.mode ≠ .silent ∧ s.share.episode = false

theorem State.setInCollapse_of_answered {s : State} (hline : s.lineCollapsed) (h : s.answersCollapse) :
    s.setInCollapse = { s with share := { s.share with collapseTimer := s.startIfStopped s.share.collapseTimer 20 } } := by
  unfold State.lineCollapsed at hline
  unfold State.answersCollapse at h
  simp [State.setInCollapse, hline, h]

theorem State.setInCollapse_of_not_answered {s : State} (hline : s.lineCollapsed) (h : ¬ s.answersCollapse) :
    s.setInCollapse = s := by
  unfold State.lineCollapsed at hline
  unfold State.answersCollapse at h
  rw [State.setInCollapse, if_pos (by simp [hline])]
  exact if_neg (by simpa [and_assoc] using h)

theorem State.setInCollapse_of_not_collapsed {s : State} (hline : ¬ s.lineCollapsed) :
    s.setInCollapse = { s with share := { s.share with collapseTimer := none } } := by
  unfold State.lineCollapsed at hline
  exact if_neg (by simpa using hline)

/-- Outside a crossing a set writes the collapse timer and the episode flag alone. -/
theorem State.setInShareEngine_of_not_crossing {s : State} (h : s.share.phase ≠ .crossing) :
    s.setInShareEngine = s.setInCollapse.setInEpisode := by
  obtain ⟨timer, episode, heq, -⟩ := s.setInCollapse_setInEpisode_eq
  simp [State.setInShareEngine, heq, h]

@[simp] theorem State.setInEpisode_collapseTimer (s : State) :
    s.setInEpisode.share.collapseTimer = s.share.collapseTimer := by
  unfold State.setInEpisode
  split <;> rfl

theorem State.setInCollapse_writes_timer (s : State) :
    s.setInCollapse = { s with share := { s.share with collapseTimer := s.setInCollapse.share.collapseTimer } } := by
  by_cases hline : s.lineCollapsed
  · by_cases h : s.answersCollapse
    · rw [State.setInCollapse_of_answered hline h]
    · rw [State.setInCollapse_of_not_answered hline h]
  · rw [State.setInCollapse_of_not_collapsed hline]

theorem State.lineLive_setInCollapse (s : State) : s.setInCollapse.lineLive ↔ s.lineLive := by
  rw [s.setInCollapse_writes_timer]
  rfl

/-- Settles O36, by whether the line has collapsed and is answered, and by whether it is live. -/
theorem setsDriveTheCollapseTimer : Obligations.SetsDriveTheCollapseTimer := by
  intro s _ hphase
  rw [State.setInShareEngine_of_not_crossing hphase, State.setInEpisode_collapseTimer]
  refine ⟨fun hvalid hlow => ?_, fun hnot => ?_, fun hlive => ?_, fun hlive => ?_, ?_⟩
  · have hline : s.lineCollapsed := ⟨hvalid, hlow⟩
    by_cases h : s.answersCollapse
    · rw [State.setInCollapse_of_answered hline h]
      obtain ⟨hactive, hmode, hepisode⟩ := h
      refine ⟨fun hrunning => ?_, fun hstopped _ _ _ => ?_, fun _ hnot => ?_⟩
      · obtain ⟨d, hd⟩ := Option.ne_none_iff_exists'.1 hrunning
        simp [State.startIfStopped, hd]
      · simp [State.startIfStopped, hstopped, State.afterMs]
      · simp [hactive, hmode, hepisode] at hnot
    · rw [State.setInCollapse_of_not_answered hline h]
      exact ⟨fun _ => rfl, fun _ hactive hmode hepisode => absurd ⟨hactive, hmode, hepisode⟩ h, fun hstopped _ => hstopped⟩
  · have hline : ¬ s.lineCollapsed := by
      rintro ⟨hvalid, hlow⟩
      rcases hnot with hinvalid | hhigh
      · simp [hvalid] at hinvalid
      · omega
    rw [State.setInCollapse_of_not_collapsed hline]
  · rw [State.setInEpisode_of_lineLive (s.lineLive_setInCollapse.2 hlive)]
  · rw [State.setInEpisode_of_not_lineLive (mt s.lineLive_setInCollapse.1 hlive), s.setInCollapse_writes_timer]
  · obtain ⟨timer, episode, heq, -⟩ := s.setInCollapse_setInEpisode_eq
    have htimer : s.setInCollapse.share.collapseTimer = timer := by
      rw [← State.setInEpisode_collapseTimer, heq]
    rw [htimer, heq]

/-! ### The pantograph's timers (R126, R129 to R132) -/

/-- The pantograph going down, with the lower timer started at the command's moment (R120). -/
def State.loweringPanto (s : State) (t : Nat) : Pantograph :=
  { s.panto.enter .lowering with lowerTimer := some (max s.clock t + 1000 * s.config.lowerTimeout) }

section Timers

variable {t d : Nat} {s : State} (hready : s.startup = .ready) (hdue : d ≤ max s.clock t)

include hready hdue

theorem exec_raiseTimerExpiry (hstate : s.panto.state = .raising) (htimer : s.panto.raiseTimer = some d) :
    exec (.raiseTimerExpiry t) s =
      .next { s with clock := max s.clock t, panto := s.loweringPanto t, port := s.port.raise .noWire } := by
  change execRaiseTimerExpiry t s = _
  rw [execRaiseTimerExpiry, State.takenAt_of_ready t s hready]
  exact congrArg Host.Outcome.next (if_pos (by simp [hstate, htimer, State.due_some, hdue]))

theorem exec_unloadTimerExpiry (hstate : s.panto.state = .unloading) (htimer : s.panto.unloadTimer = some d) :
    exec (.unloadTimerExpiry t) s =
      .next { s with clock := max s.clock t, panto := s.loweringPanto t, port := s.port.raise .unloadTimeout } := by
  change execUnloadTimerExpiry t s = _
  rw [execUnloadTimerExpiry, State.takenAt_of_ready t s hready]
  exact congrArg Host.Outcome.next (if_pos (by simp [hstate, htimer, State.due_some, hdue]))

theorem exec_lowerTimerExpiry (hstate : s.panto.state = .lowering) (htimer : s.panto.lowerTimer = some d) :
    exec (.lowerTimerExpiry t) s =
      .next { s with clock := max s.clock t, panto := s.panto.enter .faulted, port := s.port.raise .actuatorFault } := by
  change execLowerTimerExpiry t s = _
  rw [execLowerTimerExpiry, State.takenAt_of_ready t s hready]
  exact congrArg Host.Outcome.next (if_pos (by simp [hstate, htimer, State.due_some, hdue]))

theorem exec_imbalanceTimerExpiry (hstate : s.panto.state = .contact) (htimer : s.panto.imbalanceTimer = some d) :
    exec (.imbalanceTimerExpiry t) s = .next { s with
      clock := max s.clock t
      panto := { s.panto with imbalanceTimer := none, imbalanceEpisode := true }
      port := if s.panto.imbalanceEpisode then s.port else s.port.raise .headImbalance } := by
  change execImbalanceTimerExpiry t s = _
  rw [execImbalanceTimerExpiry, State.takenAt_of_ready t s hready]
  refine congrArg Host.Outcome.next ((if_pos (by simp [hstate, htimer, State.due_some, hdue])).trans ?_)
  cases s.panto.imbalanceEpisode <;> rfl

end Timers

/-- R132: EMLOWER_N takes a truck's pantograph from RAISING or UNLOADING to LOWERING. -/
theorem exec_emlowerNFall_of_up {t : Nat} {s : State} (hready : s.startup = .ready) (htruck : s.isTruck = true)
    (hstate : s.panto.state = .raising ∨ s.panto.state = .unloading) :
    exec (.emlowerNFall t) s =
      .next { s with clock := max s.clock t, panto := s.loweringPanto t, port := s.port.raise .emergencyLower } := by
  change execEmlowerNFall t s = _
  rw [execEmlowerNFall, State.takenAt_of_ready t s hready]
  refine congrArg Host.Outcome.next ((if_pos (Bool.and_eq_true_iff.2 ⟨by simp [State.isReady, hready], htruck⟩)).trans ?_)
  rcases hstate with h | h <;> simp only [h] <;> rfl

theorem exec_emlowerNFall_ignored {t : Nat} {s : State} (hready : s.startup = .ready)
    (h : s.isTruck = false ∨ s.panto.state = .lowering ∨ s.panto.state = .lowered ∨ s.panto.state = .faulted) :
    exec (.emlowerNFall t) s = .next { s with clock := max s.clock t } := by
  change execEmlowerNFall t s = _
  rw [execEmlowerNFall, State.takenAt_of_ready t s hready]
  refine congrArg Host.Outcome.next ?_
  rcases h with h | h | h | h
  · exact if_neg fun hboth => Bool.false_ne_true (h.symm.trans (Bool.and_eq_true_iff.1 hboth).2)
  all_goals simp only [h, ite_self]

/-- Settles O40, timer by timer. -/
theorem pantographTimersAndEmergencyLower : Obligations.PantographTimersAndEmergencyLower := by
  intro t d s hready hdue
  exact ⟨exec_raiseTimerExpiry hready hdue, exec_unloadTimerExpiry hready hdue, exec_lowerTimerExpiry hready hdue,
    exec_imbalanceTimerExpiry hready hdue, exec_emlowerNFall_of_up hready, exec_emlowerNFall_ignored hready⟩

/-! ### The storm count (R160) -/

/-- A record counts: not aged, and in the window (R160). -/
def State.inArcWindow (s : State) (r : ArcRecord) : Bool :=
  !r.aged && decide ((s.arcNow - r.start).toNat < 100 * s.config.arcWindow)

/-- The arcs of the records that count. -/
def State.arcsInWindow (s : State) : Nat := ((s.arc.log.filter s.inArcWindow).map (·.count)).sum

/-- The log as the count leaves it. -/
def State.agedLog (s : State) : List ArcRecord := s.arc.log.map fun r => { r with aged := !s.inArcWindow r }

theorem State.markAged_eq (s : State) : markAged s.windowCounts s.arcNow s.arc.log = s.agedLog := by
  refine List.map_congr_left fun r _ => ?_
  by_cases h : 100 * s.config.arcWindow ≤ (s.arcNow - r.start).toNat
  · have : s.inArcWindow r = false := by
      rw [State.inArcWindow, decide_eq_false (Nat.not_lt.2 h), Bool.and_false]
    rw [this]
    exact if_pos h
  · have : s.inArcWindow r = !r.aged := by
      rw [State.inArcWindow, decide_eq_true (Nat.not_le.1 h), Bool.and_true]
    rw [this, Bool.not_not]
    exact if_neg h

theorem State.stormCount_agedLog (s : State) : stormCount s.agedLog = s.arcsInWindow := by
  simp [stormCount, State.agedLog, State.arcsInWindow, List.filter_map, Function.comp_def]

/-- The arc state as the count leaves it, the flag as given. -/
def State.countedArc (s : State) (storm : Bool) : ArcMonitor := { s.arc with log := s.agedLog, storm := storm }

theorem State.takeStormCount_of_setting {s : State} (hclear : s.arc.storm = false)
    (hcount : s.config.stormThreshold ≤ s.arcsInWindow) :
    s.takeStormCount = State.floorOnset { s with arc := s.countedArc true, port := s.port.raise .arcStorm } := by
  simp [State.takeStormCount, State.markAged_eq, State.stormCount_agedLog, hclear, hcount, State.raise, State.countedArc]

theorem State.takeStormCount_of_clearing {s : State} (hset : s.arc.storm = true)
    (hcount : s.arcsInWindow ≤ s.config.stormThreshold / 2) : s.takeStormCount = { s with arc := s.countedArc false } := by
  simp [State.takeStormCount, State.markAged_eq, State.stormCount_agedLog, hset, hcount, State.countedArc]

theorem State.takeStormCount_of_clear {s : State} (hclear : s.arc.storm = false)
    (hcount : s.arcsInWindow < s.config.stormThreshold) : s.takeStormCount = { s with arc := s.countedArc false } := by
  simp [State.takeStormCount, State.markAged_eq, State.stormCount_agedLog, hclear, Nat.not_le.2 hcount, State.countedArc]

theorem State.takeStormCount_of_standing {s : State} (hset : s.arc.storm = true)
    (hcount : s.config.stormThreshold / 2 < s.arcsInWindow) : s.takeStormCount = { s with arc := s.countedArc true } := by
  simp [State.takeStormCount, State.markAged_eq, State.stormCount_agedLog, hset, Nat.not_le.2 hcount, State.countedArc]

/-- Settles O48, by the flag and the threshold that decides it. -/
theorem arcStormHasTwoThresholds : Obligations.ArcStormHasTwoThresholds := by
  intro s
  refine ⟨fun hclear hcount => ?_, fun hclear hcount => ?_, fun hset hcount => ?_, fun hset hcount => ?_, fun h => ?_,
    s.takeStormCount_log.1.trans s.markAged_eq, s.takeStormCount_log.2, ?_⟩
  · rw [State.takeStormCount_of_setting hclear hcount]
    exact ⟨by simp [State.countedArc], by simp, State.immediateCap_lim_congr _ _ _ rfl rfl rfl⟩
  · rw [State.takeStormCount_of_clear hclear hcount]
    rfl
  · rw [State.takeStormCount_of_clearing hset hcount]
    rfl
  · rw [State.takeStormCount_of_standing hset hcount]
    rfl
  · cases hstorm : s.arc.storm with
    | false =>
      have hcount := h.resolve_left (by simp [hstorm])
      rw [State.takeStormCount_of_clear hstorm hcount]
      exact ⟨rfl, rfl⟩
    | true =>
      by_cases hcount : s.arcsInWindow ≤ s.config.stormThreshold / 2
      · rw [State.takeStormCount_of_clearing hstorm hcount]
        exact ⟨rfl, rfl⟩
      · rw [State.takeStormCount_of_standing hstorm (Nat.not_le.1 hcount)]
        exact ⟨rfl, rfl⟩
  · apply State.eq_of_fields <;> simp

end Sys2Proof.Machine

/-! ## The cycle tick -/

namespace Sys2Proof.Machine

/-- The state in which the tick's work is done: the clock at the tick, the cycle timer started again (R44). -/
def State.ticked (s : State) (t d : Nat) : State :=
  { s with
    clock := max s.clock t
    share := { s.share with cycleTimer := some (nextTick (10000 * s.config.period) d (max s.clock t)) } }

theorem exec_cycleTick_of_due {t d : Nat} {s : State} (hready : s.startup = .ready) (htimer : s.share.cycleTimer = some d)
    (hdue : d ≤ max s.clock t) :
    exec (.cycleTick t) s = .next
      (if s.isTruck then (s.ticked t d).shareTick.takeStormCount else (s.ticked t d).feederTick) := by
  change execCycleTick t s = _
  rw [execCycleTick, State.takenAt_of_ready t s hready]
  refine congrArg Host.Outcome.next ((if_pos (by simp [htimer, State.due_some, hdue])).trans ?_)
  have hrearmed : State.rearmCycle { s with clock := max s.clock t } = s.ticked t d := by
    simp [State.rearmCycle, State.ticked, htimer]
  rw [hrearmed]
  rfl

/-- A tick taken within its period starts the timer for the next one of the grid (R44). -/
theorem nextTick_of_within {p d c : Nat} (hd : d ≤ c) (hc : c < d + p) : nextTick p d c = d + p := by
  rw [nextTick, Nat.div_eq_of_lt (by omega), Nat.zero_add, Nat.mul_one]

/-! ### A truck's tick (R1, R19 to R21, R45) -/

theorem State.shareTick_of_computing {s : State} (hnone : s.mode ≠ .none) (hsilent : s.mode ≠ .silent) :
    s.shareTick = s.computingTick := by
  unfold State.shareTick
  cases hmode : s.mode with
  | none => exact absurd hmode hnone
  | silent => exact absurd hmode hsilent
  | degraded => rfl
  | held => rfl
  | sharing => rfl

theorem State.shareTick_of_silent {s : State} (h : s.mode = .silent) : s.shareTick = s.applyTarget 0 := by
  rw [State.shareTick, h]

theorem State.shareTick_of_none {s : State} (h : s.mode = .none) : s.shareTick = s := by
  rw [State.shareTick, h]

/-- A truck in ACTIVE and not SILENT has an address and transmits, so the link takes its frames (R110). -/
theorem State.linkTakes_of_computing {s : State} (htruck : s.isTruck = true) (hactive : s.share.phase = .active)
    (hsilent : s.mode ≠ .silent) : s.linkTakes = true := by
  have hmuted : s.muted ≠ true := fun h => hsilent (by simp [State.mode, htruck, hactive, h])
  simpa [State.muted, State.linkTakes] using hmuted

/-- The mode's code in a DEMAND (R20): a computing truck is SHARING, HELD or DEGRADED. -/
theorem State.mode_code_of_computing {s : State} (hnone : s.mode ≠ .none) (hsilent : s.mode ≠ .silent) :
    s.mode.code = match s.mode with | .degraded => 3 | .held => 2 | _ => 1 := by
  cases hmode : s.mode with
  | none => exact absurd hmode hnone
  | silent => exact absurd hmode hsilent
  | degraded => rfl
  | held => rfl
  | sharing => rfl

/-- R20: the DEMAND a computing tick places. -/
def State.ownDemand (s : State) : Frame := { source := s.config.address, payload := .demand s.demandPayload }

theorem State.computingTick_link {s : State} (h : s.linkTakes = true) :
    s.computingTick.link = s.link.place .periodic s.ownDemand s.clock := by
  have htakes : (s.applyTarget s.target).linkTakes = true := by simpa [State.linkTakes] using h
  exact (State.offer_of_taken (s.applyTarget s.target) .periodic (.demand s.demandPayload) htakes).trans
    (by simp [State.ownDemand])

/-- The state ACTIVE's tick works from is the tick's moment, but for the timer, which no view of the computation reads. -/
theorem State.ticked_lim (s : State) (t d c : Nat) :
    ((s.ticked t d).applyTarget c).lim = (State.applyTarget { s with clock := max s.clock t } c).lim :=
  State.applyTarget_lim_congr _ _ _ rfl rfl rfl

theorem State.division_stage (s : State) : s.division.stage = if s.budget < securedSum s.sharers then 1 else 2 := by
  unfold State.division divideBudget
  split <;> rfl

/-- The cycle timer's next expiry, as O16 to O18 state it (R44). -/
theorem State.ticked_timer {t d : Nat} {s : State} (hdue : d ≤ max s.clock t) (hperiod : 1 ≤ s.config.period) :
    let period := 10000 * s.config.period
    let next := nextTick period d (max s.clock t)
    (max s.clock t < d + period → next = d + period) ∧
      ∃ n, next = d + n * period ∧ max s.clock t < d + n * period ∧ d + n * period ≤ max s.clock t + period :=
  ⟨nextTick_of_within hdue, nextTick_on_grid _ _ _ (by omega) hdue⟩

/-- Settles O16, from the equations of the computing tick. -/
theorem tickInActiveComputesTheShare : Obligations.TickInActiveComputesTheShare := by
  intro t d s hready htruck hactive hsilent htimer hdue hperiod
  have hnone : s.mode ≠ .none := by simp [State.mode_eq_none_iff, htruck, hactive]
  have htakes : s.linkTakes = true := State.linkTakes_of_computing htruck hactive hsilent
  have hcomputing : (s.ticked t d).shareTick = (s.ticked t d).computingTick :=
    State.shareTick_of_computing (s := s.ticked t d) hnone hsilent
  have hlink := State.computingTick_link (s := s.ticked t d) htakes
  obtain ⟨hplaced, hshed, hdepart⟩ := s.link.place_periodic (s.ticked t d).ownDemand (max s.clock t)
  refine ⟨(s.ticked t d).computingTick, ?_, ?_⟩
  · rw [exec_cycleTick_of_due hready htimer hdue, if_pos htruck, hcomputing]
  rw [State.takenAt_of_ready t s hready]
  obtain ⟨hnext, n, hgrid⟩ := State.ticked_timer hdue hperiod
  have hlimit := State.applyTarget_limit (s.ticked t d) (s.ticked t d).target
  refine ⟨fun hwithin => ?_, ⟨n, ?_⟩, ?_, ?_, ?_, ?_, 
    ⟨⟨(s.ticked t d).ownDemand, (s.link.periodic.map (·.attempts)).getD 0⟩, hlink, ?_, rfl, ?_⟩, ?_, ?_, ?_⟩
  · rw [State.computingTick_share]
    exact congrArg some (hnext hwithin)
  · rw [State.computingTick_share]
    exact ⟨congrArg some hgrid.1, hgrid.2⟩
  · rw [State.computingTick_share, hlimit, State.budgetRecord, State.division_stage]
    rfl
  · rw [State.computingTick_lim, State.ticked_lim]
    rfl
  · rw [State.computingTick_lim, hlimit]
    rfl
  · rw [State.computingTick_lim, State.applyTarget_lastTarget]
    rfl
  · rw [hlink]
    exact hplaced
  · have hcode : (s.ticked t d).mode.code = match s.mode with | .degraded => 3 | .held => 2 | _ => 1 :=
      State.mode_code_of_computing hnone hsilent
    rw [State.ownDemand, State.demandPayload, hcode]
    rfl
  · rw [hlink]
    exact hshed
  · rw [hlink]
    exact hdepart
  · exact State.computingTick_frame _

/-- Settles O17, by the phase. -/
theorem tickWithoutComputationQueuesNothing : Obligations.TickWithoutComputationQueuesNothing := by
  intro t d s hready htruck htimer hdue hperiod
  obtain ⟨hnext, hgrid⟩ := State.ticked_timer hdue hperiod
  have htick := exec_cycleTick_of_due hready htimer hdue
  rw [if_pos htruck] at htick
  refine ⟨_, hnext, hgrid, fun hactive hsilent => ⟨(s.ticked t d).applyTarget 0, ?_, ?_, ?_, ?_, ?_⟩, fun hphase => ?_⟩
  · rw [htick, State.shareTick_of_silent (s := s.ticked t d) hsilent]
  · rw [State.takenAt_of_ready t s hready]
    exact s.ticked_lim t d 0
  · rw [State.applyTarget_limit]
    exact rampedLimit_of_le (Nat.zero_le _)
  · exact State.applyTarget_lastTarget _ _
  · exact State.applyTarget_frame _ _
  · have hnone : s.mode = .none := s.mode_eq_none_iff.2 fun h => hphase h.2
    rw [htick, State.shareTick_of_none (s := s.ticked t d) hnone]
    rfl

/-! ### A feeder's tick (R164, R165) -/

/-- R165: what the FRESH trucks announce, as a sum over the entries that count. -/
theorem sum_freshMeasured (now : Reading) (l : List Peer) :
    (l.map fun p => p.freshMeasured now).sum = (l.filterMap fun p =>
      match p.part with
      | .truck e => if p.isFresh now then some e.measured else none
      | .feeder _ => none).sum := by
  induction l with
  | nil => rfl
  | cons p rest ih =>
    rw [List.map_cons, List.sum_cons, List.filterMap_cons, ih, Peer.freshMeasured]
    cases p.part with
    | feeder d => simp
    | truck d => cases p.isFresh now <;> simp

/-- R164: the SUPPLY a feeder's tick places. -/
def State.ownSupply (s : State) : Frame := { source := s.config.address, payload := .supply s.supplyPayload }

theorem State.feederTick_link {s : State} (h : s.linkTakes = true) :
    s.feederTick.link = s.link.place .periodic s.ownSupply s.clock := State.offer_of_taken _ _ _ h

theorem State.supplyFlags_eq (s : State) : s.supplyFlags =
    byte1 ((if s.feeder.overload = .normal then 0 else 1) + (if s.openChannel 0 || s.openChannel 1 then 2 else 0)) := by
  unfold State.supplyFlags State.measurementInvalid
  cases s.feeder.overload <;> cases s.openChannel 0 || s.openChannel 1 <;> rfl

/-- Settles O18, by whether the link takes the frame. -/
theorem feederTickQueuesItsSupply : Obligations.FeederTickQueuesItsSupply := by
  intro t d s hready hfeeder htimer hdue hperiod
  obtain ⟨hnext, n, hgrid⟩ := State.ticked_timer hdue hperiod
  have htick := exec_cycleTick_of_due hready htimer hdue
  rw [if_neg (by simp [hfeeder])] at htick
  have hshare : (s.ticked t d).feederTick.share = (s.ticked t d).share := by simp
  rw [State.takenAt_of_ready t s hready]
  refine ⟨_, htick, fun hwithin => ?_, ⟨n, ?_, hgrid.2⟩, fun htx haddress => ?_, fun hrefused => ?_, ?_⟩
  · rw [hshare]
    exact congrArg some (hnext hwithin)
  · rw [hshare]
    exact congrArg some hgrid.1
  · have hlink := State.feederTick_link (s := s.ticked t d) (s.linkTakes_iff.2 ⟨htx, haddress⟩)
    refine ⟨⟨(s.ticked t d).ownSupply, (s.link.periodic.map (·.attempts)).getD 0⟩, hlink, ?_, rfl, ?_⟩
    · rw [hlink]
      exact (s.link.place_periodic _ _).1
    · rw [State.ownSupply, State.supplyPayload, State.supplyFlags_eq, State.unaccounted, sum_freshMeasured]
      rfl
  · have htakes : s.linkTakes = false := by
      rw [← Bool.not_eq_true, State.linkTakes_iff]
      rintro ⟨htx, haddress⟩
      rcases hrefused with h | h
      · simp [htx] at h
      · exact haddress h
    rw [State.feederTick, State.offer_of_refused (s.ticked t d) _ _ htakes]
    rfl
  · rw [hshare]
    exact State.feederTick_frame _

end Sys2Proof.Machine

/-! ## The own shed, and contact left -/

namespace Sys2Proof.Machine

/-! ### The collapse timer's expiry (R85) -/

/-- The state in which the own hold is taken: the timer spent, the episode begun, the own SHED offered. -/
def State.shedOffered (s : State) (t : Nat) : State :=
  State.offer { s with clock := max s.clock t, share := { s.share with collapseTimer := none, episode := true } }
    .shed (.shed { reason := 2, holdTime := BitVec.ofNat 16 (s.config.collapseHold / 10) })

theorem exec_collapseTimerExpiry {t d : Nat} {s : State} (hready : s.startup = .ready) (htimer : s.share.collapseTimer = some d)
    (hdue : d ≤ max s.clock t) :
    exec (.collapseTimerExpiry t) s =
      .next (((s.shedOffered t).takeShed s.config.address (s.config.collapseHold / 10) 2).raise .shedSent) := by
  change execCollapseTimerExpiry t s = _
  rw [execCollapseTimerExpiry, State.takenAt_of_ready t s hready]
  refine congrArg Host.Outcome.next ((if_pos (by simp [htimer, State.due_some, hdue])).trans ?_)
  simp [State.shedOffered]

/-- Settles O37, by whether the own hold is an onset. -/
theorem collapseCallsTheOwnShed : Obligations.CollapseCallsTheOwnShed := by
  intro t d s hready htruck htimer hdue htx haddress hlow hhigh units now
  have htakes : s.linkTakes = true := s.linkTakes_iff.2 ⟨htx, haddress⟩
  have hlink : (s.shedOffered t).link =
      s.link.place .shed ⟨s.config.address, .shed ⟨2, BitVec.ofNat 16 units⟩⟩ (max s.clock t) :=
    State.offer_of_taken _ _ _ htakes
  obtain ⟨hshed, hperiodic, hdepart⟩ :=
    s.link.place_shed ⟨s.config.address, .shed ⟨2, BitVec.ofNat 16 units⟩⟩ (max s.clock t)
  have hnow : (s.shedOffered t).now = now := by
    simp [now, State.shedOffered, State.now, State.takenAt_of_ready t s hready]
  have hunits : units ≠ 0 := by
    simp only [units]
    omega
  have htaken : (s.shedOffered t).takeShed s.config.address units 2 =
      (s.shedOffered t).withHolds (takenHolds now s.config.address units 2 s.holds) := by
    have htruck' : (s.shedOffered t).isTruck = true := by simpa [State.shedOffered, State.isTruck] using htruck
    rw [State.takeShed_hold s.config.address 2 htruck' hunits, hnow]
    simp [State.shedOffered]
  refine ⟨_, exec_collapseTimerExpiry hready htimer hdue, ?_, ⟨⟨_, (s.link.shed.map (·.attempts)).getD 0⟩, ?_, rfl, rfl⟩, ?_, ?_, ?_, fun hempty => ?_,
    fun hstands => ?_, ?_⟩
  · simp [State.shedOffered]
  · simpa [hlink] using hshed
  · simpa [hlink] using hdepart
  · simpa [hlink] using hperiodic
  · exact (congrArg State.holds htaken).trans (State.withHolds_holds _ _)
  · have hempty' : (s.shedOffered t).holds = [] := by simpa [State.shedOffered] using hempty
    have hsingle : takenHolds now s.config.address units 2 [] =
        [⟨s.config.address, now + BitVec.ofNat 48 (10 * units), 2⟩] := rfl
    rw [htaken, State.withHolds_of_onset hempty' (takenHolds_ne_nil _ _ _ _ _), hempty, hsingle]
    refine ⟨by simp, by simp [State.shedOffered], ?_⟩
    rw [State.takenAt_of_ready t s hready]
    have hfloor : (s.shedOffered t).config.floor = s.config.floor := by simp [State.shedOffered]
    exact (State.immediateCap_lim_congr (State.raise { s.shedOffered t with holds := _ } .holdStart)
      { s with clock := max s.clock t } (s.shedOffered t).config.floor (by simp [State.shedOffered])
      (by simp [State.shedOffered]) (by simp [State.shedOffered])).trans (by rw [hfloor])
  · have hstands' : (s.shedOffered t).holds ≠ [] := by simpa [State.shedOffered] using hstands
    rw [htaken, State.withHolds_of_standing hstands']
    simp [State.shedOffered]
  · apply State.eq_of_fields <;> simp [State.shedOffered]

/-! ### Contact left (R49, R50, R99) -/

/-- A truck in CONTACT at the command's moment, its pantograph already in the state it goes to. -/
def State.leaving (s : State) (t : Nat) (p : Pantograph) (q : TruckPort) : State :=
  { s with clock := max s.clock t, panto := p, port := q }

/-- What a truck whose pantograph leaves CONTACT becomes, as O38 and O41 state it. -/
structure State.Left (s u : State) (t : Nat) (p : Pantograph) (q : TruckPort) (down : Bool) : Prop where
  panto : u.panto = p
  port : u.port = q
  share : u.share = { s.share with
    phase := .offline, listenTimer := none, crossSub := .none, crossTimer := none, collapseTimer := none }
  lim : u.lim = (State.immediateCap { s with clock := max s.clock t } 0).lim
  periodic : u.link.periodic = none
  shed : u.link.shed = s.link.shed
  departs : down = true → s.share.phase = .active → s.mode ≠ .silent →
    u.link.depart = some { frame := ⟨s.config.address, .depart⟩, attempts := (s.link.depart.map (·.attempts)).getD 0 }
  stays : down = false ∨ s.share.phase ≠ .active ∨ s.mode = .silent → u.link.depart = s.link.depart
  frame : u = { s with
    clock := max s.clock t, panto := u.panto, port := u.port, share := u.share, lim := u.lim, link := u.link }

theorem State.left_contactLeft {s : State} (htruck : s.isTruck = true) (t : Nat) (p : Pantograph) (q : TruckPort) (down : Bool) :
    s.Left ((s.leaving t p q).contactLeft down) t p q down := by
  obtain ⟨hshare, hlim, hperiodic, hshed, hdeparts, hstays⟩ := (s.leaving t p q).contactLeft_spec down htruck
  exact {
    panto := by simp [State.leaving]
    port := by simp [State.leaving]
    share := hshare
    lim := hlim.trans (State.immediateCap_lim_congr _ _ _ rfl rfl rfl)
    periodic := hperiodic
    shed := hshed
    departs := hdeparts
    stays := hstays
    frame := by
      apply State.eq_of_fields <;> simp [State.leaving] }

/-! ### Taking the pantograph down (R124, R132) -/

/-- UNLOADING entered from CONTACT by LOWER: a running loss timer is kept (R130). -/
def State.unloadingPanto (s : State) (t : Nat) (lossTimer : Option Nat) : Pantograph :=
  { s.panto.enter .unloading with
    lossTimer := lossTimer, unloadTimer := some (max s.clock t + 1000 * s.config.unloadTimeout) }

theorem exec_lower_of_contact {t : Nat} {s : State} (hready : s.startup = .ready) (htruck : s.isTruck = true)
    (hcontact : s.panto.state = .contact) :
    exec (.lower t) s = .next (State.contactLeft
      (s.leaving t (s.unloadingPanto t s.panto.lossTimer) { s.port with response := [0x00] }) true) := by
  change execLower t s = _
  rw [execLower, onPort_of_ready t s _ hready, State.takenAt_of_ready t s hready]
  refine congrArg Host.Outcome.next ((truckOnly_of_truck { s with clock := max s.clock t } _ htruck).trans ?_)
  simp only [hcontact]
  rfl

theorem exec_emlowerNFall_of_contact {t : Nat} {s : State} (hready : s.startup = .ready) (htruck : s.isTruck = true)
    (hcontact : s.panto.state = .contact) :
    exec (.emlowerNFall t) s =
      .next (State.contactLeft (s.leaving t (s.loweringPanto t) (s.port.raise .emergencyLower)) true) := by
  change execEmlowerNFall t s = _
  rw [execEmlowerNFall, State.takenAt_of_ready t s hready]
  refine congrArg Host.Outcome.next ((if_pos (Bool.and_eq_true_iff.2 ⟨by simp [State.isReady, hready], htruck⟩)).trans ?_)
  simp only [hcontact]
  rfl

/-- Settles O38, command by command, from what a truck leaving CONTACT becomes. -/
theorem takingThePantographDownEndsSharing : Obligations.TakingThePantographDownEndsSharing := by
  intro t i s hready htruck hcontact hi
  rw [State.takenAt_of_ready t s hready]
  have hzero : (State.immediateCap { s with clock := max s.clock t } 0).lim.limit = 0 := by simp
  rcases hi with rfl | rfl
  · have left := State.left_contactLeft htruck t (s.unloadingPanto t s.panto.lossTimer) { s.port with response := [0x00] } true
    exact ⟨_, exec_lower_of_contact hready htruck hcontact, fun _ => ⟨left.panto, left.port⟩, nofun, left.share,
      left.lim, left.lim ▸ hzero, left.periodic, left.shed, fun hactive hmode => ⟨_, left.departs rfl hactive hmode, rfl, rfl⟩,
      fun h => left.stays (.inr h), left.frame⟩
  · have left := State.left_contactLeft htruck t (s.loweringPanto t) (s.port.raise .emergencyLower) true
    exact ⟨_, exec_emlowerNFall_of_contact hready htruck hcontact, nofun, fun _ => ⟨left.panto, left.port⟩,
      left.share, left.lim, left.lim ▸ hzero, left.periodic, left.shed,
      fun hactive hmode => ⟨_, left.departs rfl hactive hmode, rfl, rfl⟩, fun h => left.stays (.inr h), left.frame⟩

/-! ### Contact lost (R128, R130) -/

/-- R128: the history takes the new loss, and of more than three the oldest goes. -/
theorem addLoss_eq {l : List Reading} (h : l.length ≤ 3) (now : Reading) :
    addLoss l now = if l.length < 3 then l ++ [now] else l.tail ++ [now] := by
  have hlength : (l ++ [now]).length = l.length + 1 := List.length_append
  rw [addLoss]
  by_cases hroom : l.length < 3
  · rw [if_pos hroom]
    exact if_neg (by omega)
  · rw [if_neg hroom, ← List.tail_append_of_ne_nil (List.ne_nil_of_length_pos (by omega)), ← List.drop_one]
    exact if_pos (by omega)

/-- R128: three losses, the first less than 10,000 ms before the last. -/
theorem repeatedLoss_iff (l : List Reading) (now : Reading) :
    repeatedLoss l now = true ↔ ∃ x ∈ l.head?, l.length = 3 ∧ (now - x).toNat < 10000 := by
  match l with
  | [] => simp [repeatedLoss]
  | [a] => simp [repeatedLoss]
  | [a, b] => simp [repeatedLoss]
  | [a, b, c] =>
    rw [repeatedLoss, decide_eq_true_iff]
    exact ⟨fun h => ⟨a, rfl, rfl, h⟩, fun ⟨_, hx, _, h⟩ => Option.some.inj hx ▸ h⟩
  | a :: b :: c :: d :: rest => simp [repeatedLoss]

section Loss

variable {t d : Nat} {s : State} (hready : s.startup = .ready) (htimer : s.panto.lossTimer = some d) (hdue : d ≤ max s.clock t)

include hready htimer hdue

theorem exec_lossTimerExpiry_of_contact (hcontact : s.panto.state = .contact) :
    exec (.lossTimerExpiry t) s = .next (State.contactLoss { s with clock := max s.clock t }) := by
  change execLossTimerExpiry t s = _
  rw [execLossTimerExpiry, State.takenAt_of_ready t s hready]
  refine congrArg Host.Outcome.next ((if_pos (by simp [htimer, State.due_some, hdue])).trans ?_)
  simp only [hcontact]

theorem exec_lossTimerExpiry_of_unloading (hunloading : s.panto.state = .unloading) :
    exec (.lossTimerExpiry t) s = .next (State.lossInUnloading { s with clock := max s.clock t }) := by
  change execLossTimerExpiry t s = _
  rw [execLossTimerExpiry, State.takenAt_of_ready t s hready]
  refine congrArg Host.Outcome.next ((if_pos (by simp [htimer, State.due_some, hdue])).trans ?_)
  simp only [hunloading]

end Loss

theorem State.contactLoss_of_repeated {s : State} (t : Nat)
    (h : repeatedLoss (addLoss s.panto.history (State.now { s with clock := max s.clock t }))
      (State.now { s with clock := max s.clock t }) = true) :
    State.contactLoss { s with clock := max s.clock t } = State.contactLeft
      (s.leaving t { s.unloadingPanto t none with history := [] } ((s.port.raise .contactLost).raise .repeatedLoss)) true :=
  if_pos h

theorem State.contactLoss_of_single {s : State} (t : Nat)
    (h : repeatedLoss (addLoss s.panto.history (State.now { s with clock := max s.clock t }))
      (State.now { s with clock := max s.clock t }) ≠ true) :
    State.contactLoss { s with clock := max s.clock t } = State.contactLeft
      (s.leaving t { s.panto.enter .raising with
        raiseTimer := some (max s.clock t + 1000 * s.config.raiseTimeout)
        history := addLoss s.panto.history (State.now { s with clock := max s.clock t }) } (s.port.raise .contactLost)) false :=
  if_neg h

/-- Settles O41: in CONTACT by whether the loss is a repeated one, in UNLOADING by whether a force channel is OPEN. -/
theorem contactLossesAreCounted : Obligations.ContactLossesAreCounted := by
  intro t d s hready htruck htimer hdue now history offline
  have hnow : now = State.now { s with clock := max s.clock t } := congrArg State.now (State.takenAt_of_ready t s hready)
  rw [State.takenAt_of_ready t s hready]
  refine ⟨fun hcontact hlength => ?_, fun hunloading hopen => ?_, fun hunloading h2 h3 => ?_⟩
  · have hhistory : addLoss s.panto.history now = history := addLoss_eq hlength now
    rw [exec_lossTimerExpiry_of_contact hready htimer hdue hcontact]
    by_cases hrepeated : repeatedLoss history now = true
    · have left := State.left_contactLeft htruck t { s.unloadingPanto t none with history := [] }
        ((s.port.raise .contactLost).raise .repeatedLoss) true
      rw [State.contactLoss_of_repeated t (by rwa [← hnow, hhistory])]
      obtain ⟨x, hx, hthree, hrecent⟩ := (repeatedLoss_iff history now).1 hrepeated
      exact ⟨_, rfl, fun hold => absurd hrecent (Nat.not_lt.2 (hold x hx hthree)),
        fun _ _ _ _ => ⟨left.panto, left.port, fun hactive hmode => ⟨_, left.departs rfl hactive hmode, rfl⟩,
          fun h => left.stays (.inr h)⟩, left.share, left.lim, left.periodic, left.shed, left.frame⟩
    · have left := State.left_contactLeft htruck t { s.panto.enter .raising with
        raiseTimer := some (max s.clock t + 1000 * s.config.raiseTimeout), history := history } (s.port.raise .contactLost) false
      rw [State.contactLoss_of_single t (by rwa [← hnow, hhistory]), ← hnow, hhistory]
      exact ⟨_, rfl, fun _ => ⟨left.panto, left.port, left.stays (.inl rfl)⟩,
        fun x hx hthree hrecent => absurd ((repeatedLoss_iff history now).2 ⟨x, hx, hthree, hrecent⟩) hrepeated,
        left.share, left.lim, left.periodic, left.shed, left.frame⟩
  · rw [exec_lossTimerExpiry_of_unloading hready htimer hdue hunloading, State.lossInUnloading_of_open]
    rcases hopen with h | h
    · exact Bool.or_eq_true_iff.2 (.inl h)
    · exact Bool.or_eq_true_iff.2 (.inr h)
  · rw [exec_lossTimerExpiry_of_unloading hready htimer hdue hunloading, State.lossInUnloading_of_good]
    · rfl
    · exact Bool.or_eq_false_iff.2 ⟨h2, h3⟩

end Sys2Proof.Machine

/-! ## The pantograph's commands and the published sets it takes -/

namespace Sys2Proof.Machine

/-! ### Entry to LOWERED (R120, R159) -/

/-- The pending records enter the log as they stand, the oldest first and 16 at most (R159). -/
def ArcMonitor.flushed (a : ArcMonitor) : ArcMonitor :=
  { a with
    pending := []
    log := a.pending.foldl (fun log r => (if log.length < 16 then log else log.tail) ++ [r]) a.log }

theorem enterLog_eq (log : List ArcRecord) (r : ArcRecord) :
    enterLog log r = (if log.length < 16 then log else log.tail) ++ [r] := by
  rw [enterLog, List.drop_one, show arcLogCapacity = 16 from rfl]
  split <;> rfl

theorem State.flushArcs_of_empty {s : State} (h : s.arc.pending = []) : s.flushArcs = s := by
  simp [State.flushArcs, h]

theorem State.flushArcs_of_pending {s : State} (h : s.arc.pending ≠ []) :
    s.flushArcs = State.takeStormCount { s with arc := s.arc.flushed } := by
  rw [State.flushArcs, if_neg (by simpa using h), funext fun log => funext (enterLog_eq log)]
  rfl

/-- Entry to LOWERED, the state before it given field by field. -/
theorem State.enterLowered_of_empty {s : State} (h : s.arc.pending = []) :
    s.enterLowered = { s with panto := s.panto.enter .lowered } :=
  State.flushArcs_of_empty (s := { s with panto := s.panto.enter .lowered }) h

theorem State.enterLowered_of_pending {s : State} (h : s.arc.pending ≠ []) :
    s.enterLowered = State.takeStormCount { s with panto := s.panto.enter .lowered, arc := s.arc.flushed } :=
  State.flushArcs_of_pending (s := { s with panto := s.panto.enter .lowered }) h

/-! ### RAISE, LOWER and CLEAR_FAULT (R123, R124, R134, R135) -/

/-- A command that leaves the pantograph with `p` and answers with one byte. -/
def State.answered (s : State) (t : Nat) (p : Pantograph) (code : Byte) : State :=
  { s with clock := max s.clock t, panto := p, port := { s.port with response := [code] } }

section Feeder

variable {t : Nat} {s : State} (hready : s.startup = .ready) (hfeeder : s.isTruck = false)

include hready hfeeder

theorem onPort_truckOnly_of_feeder (body : State → State) :
    onPort t s (fun a => truckOnly a body) = s.answered t s.panto 0x07 := by
  rw [onPort_of_ready t s _ hready, State.takenAt_of_ready t s hready]
  exact truckOnly_of_feeder { s with clock := max s.clock t } body hfeeder

end Feeder

section Truck

variable {t : Nat} {s : State} (hready : s.startup = .ready) (htruck : s.isTruck = true)

include hready htruck

theorem onPort_truckOnly_of_truck (body : State → State) :
    onPort t s (fun a => truckOnly a body) = body { s with clock := max s.clock t } := by
  rw [onPort_of_ready t s _ hready, State.takenAt_of_ready t s hready]
  exact truckOnly_of_truck { s with clock := max s.clock t } body htruck

theorem exec_raise_of_truck (em : Bool) : exec (.raise t em) s = .next (match s.panto.state with
    | .lowered => if s.sensorFault || em then s.answered t s.panto 0x06 else s.answered t { s.panto.enter .raising with
        raiseTimer := some (max s.clock t + 1000 * s.config.raiseTimeout) } 0x00
    | .raising => s.answered t s.panto 0x00
    | .contact => s.answered t s.panto 0x00
    | .unloading => s.answered t s.panto 0x04
    | .lowering => s.answered t s.panto 0x04
    | .faulted => s.answered t s.panto 0x05) := by
  refine congrArg Host.Outcome.next ((onPort_truckOnly_of_truck hready htruck _).trans ?_)
  cases s.panto.state <;> rfl

theorem exec_lower_of_not_contact (h : s.panto.state ≠ .contact) : exec (.lower t) s = .next (match s.panto.state with
    | .raising => s.answered t (s.loweringPanto t) 0x00
    | .faulted => s.answered t s.panto 0x05
    | _ => s.answered t s.panto 0x00) := by
  refine congrArg Host.Outcome.next ((onPort_truckOnly_of_truck hready htruck _).trans ?_)
  cases hstate : s.panto.state with
  | contact => exact absurd hstate h
  | _ => rfl

theorem exec_clearFault_of_faulted (h : s.panto.state = .faulted) :
    exec (.clearFault t) s = .next (if s.openChannel 4 then s.answered t s.panto 0x06
      else if s.code 4 ≤ s.config.loweredThreshold then (s.answered t s.panto 0x00).enterLowered
      else s.answered t (s.loweringPanto t) 0x00) := by
  refine congrArg Host.Outcome.next ((onPort_truckOnly_of_truck hready htruck _).trans ?_)
  simp only [h]
  rfl

theorem exec_clearFault_of_not_faulted (h : s.panto.state ≠ .faulted) :
    exec (.clearFault t) s = .next (s.answered t s.panto 0x00) := by
  refine congrArg Host.Outcome.next ((onPort_truckOnly_of_truck hready htruck _).trans ?_)
  cases hstate : s.panto.state with
  | faulted => exact absurd hstate h
  | _ => rfl

end Truck

theorem State.sensorFault_of_truck {s : State} (htruck : s.isTruck = true) :
    s.sensorFault = true ↔ s.openChannel 2 = true ∨ s.openChannel 3 = true ∨ s.openChannel 4 = true := by
  simp [State.sensorFault, htruck, or_assoc]

/-- Settles O39, command by command and state by state. -/
theorem pantographCommandsAreTakenByState : Obligations.PantographCommandsAreTakenByState := by
  refine ⟨fun p st => rfl, fun t em s hready => ?_⟩
  intro answers
  refine ⟨fun hfeeder => ?_, fun htruck => ?_⟩
  · exact ⟨congrArg Host.Outcome.next (onPort_truckOnly_of_feeder hready hfeeder _),
      congrArg Host.Outcome.next (onPort_truckOnly_of_feeder hready hfeeder _),
      congrArg Host.Outcome.next (onPort_truckOnly_of_feeder hready hfeeder _)⟩
  have hfault := State.sensorFault_of_truck htruck
  simp only [answers]
  refine ⟨fun hstate h2 h3 h4 hem => ?_, fun hstate hrefused => ?_, fun hstate => ?_, fun hstate => ?_, fun hstate => ⟨?_, ?_⟩,
    fun hstate => ?_, fun hstate => ?_, fun hstate hopen => ?_, fun hstate hgood hdown => ?_, fun hstate hgood hup => ?_,
    fun hstate => ?_⟩
  · have hclear : (s.sensorFault || em) = false := by simp [← Bool.not_eq_true, hfault, h2, h3, h4, hem]
    rw [exec_raise_of_truck hready htruck, hstate, hclear]
    rfl
  · have hset : (s.sensorFault || em) = true := by
      rw [Bool.or_eq_true, hfault]
      tauto
    rw [exec_raise_of_truck hready htruck, hstate, hset]
    rfl
  · rcases hstate with hstate | hstate <;> rw [exec_raise_of_truck hready htruck, hstate] <;> rfl
  · rcases hstate with hstate | hstate <;> rw [exec_raise_of_truck hready htruck, hstate] <;> rfl
  · rw [exec_raise_of_truck hready htruck, hstate]
    rfl
  · rw [exec_lower_of_not_contact hready htruck (by simp [hstate]), hstate]
    rfl
  · rw [exec_lower_of_not_contact hready htruck (by simp [hstate]), hstate]
    rfl
  · rcases hstate with hstate | hstate | hstate <;>
      rw [exec_lower_of_not_contact hready htruck (by simp [hstate]), hstate] <;> rfl
  · rw [exec_clearFault_of_faulted hready htruck hstate, if_pos hopen]
    rfl
  · rw [exec_clearFault_of_faulted hready htruck hstate, if_neg (by simp [hgood]), if_pos hdown]
    exact ⟨fun hempty => congrArg Host.Outcome.next (State.enterLowered_of_empty (s := s.answered t s.panto 0x00) hempty),
      fun hpending => congrArg Host.Outcome.next (State.enterLowered_of_pending (s := s.answered t s.panto 0x00) hpending)⟩
  · rw [exec_clearFault_of_faulted hready htruck hstate, if_neg (by simp [hgood]), if_neg (Nat.not_le.2 hup)]
    rfl
  · rw [exec_clearFault_of_not_faulted hready htruck hstate]
    rfl

/-! ### A published set (R122, R125 to R131) -/

/-- R127: the hold duty a set leaves, brought into the hold band where the counted force lies outside the window. -/
def State.regulatedDuty (s : State) : Nat :=
  if s.forceCounted && decide (s.totalForce < s.config.windowLow) then
    min s.config.holdMax (max s.config.holdMin (s.panto.holdDuty + s.config.holdStep))
  else if s.forceCounted && decide (s.config.windowHigh < s.totalForce) then
    min s.config.holdMax (max s.config.holdMin (s.panto.holdDuty - s.config.holdStep))
  else s.panto.holdDuty

/-- R122: a qualification timer after a set: untouched by a set that does not count. -/
def State.watched (s : State) (timer : Option Nat) (met : Bool) (ms : Nat) : Option Nat :=
  if s.forceCounted then (if met then some (timer.getD (s.clock + 1000 * ms)) else none) else timer

/-- R129: the pantograph with its imbalance episode as the set leaves it. -/
def State.headsPanto (s : State) : Pantograph :=
  { s.panto with imbalanceEpisode :=
      s.panto.imbalanceEpisode && !(s.forceCounted && decide (s.headDifference ≤ s.config.imbalanceLimit)) }

theorem State.setInEpisodeOfHeads_eq (s : State) : s.setInEpisodeOfHeads = { s with panto := s.headsPanto } := by
  unfold State.setInEpisodeOfHeads State.headsPanto
  cases s.forceCounted && decide (s.headDifference ≤ s.config.imbalanceLimit) <;> simp

theorem State.regulate_eq (s : State) : s.regulate = { s with panto := { s.panto with holdDuty := s.regulatedDuty } } := by
  unfold State.regulate State.regulatedDuty
  cases s.forceCounted <;> simp [holdBand]

theorem State.qualify_eq (s : State) (timer : Option Nat) (met : Bool) (ms : Nat) :
    s.qualify timer met ms = if met then some (timer.getD (s.clock + 1000 * ms)) else none := by
  unfold State.qualify
  cases timer <;> rfl

theorem State.watchContact_eq (s : State) : s.watchContact = { s with panto := { s.panto with
    qualTimer := s.watched s.panto.qualTimer (decide (s.config.contactThreshold ≤ s.totalForce)) 100 } } := by
  unfold State.watchContact State.watched
  cases s.forceCounted <;> simp [State.qualify_eq]

theorem State.watchLoss_eq (s : State) : s.watchLoss = { s with panto := { s.panto with
    lossTimer := s.watched s.panto.lossTimer (decide (s.totalForce < s.config.lossThreshold)) (10 * s.config.lossTime) } } := by
  unfold State.watchLoss State.watched
  cases s.forceCounted <;> simp [State.qualify_eq]

/-- R129: the imbalance timer after a set. -/
def State.watchedImbalance (s : State) : Option Nat :=
  if decide (s.config.imbalanceLimit < s.headDifference) && s.panto.imbalanceEpisode then s.panto.imbalanceTimer
  else s.watched s.panto.imbalanceTimer (decide (s.config.imbalanceLimit < s.headDifference)) 1000

theorem State.watchImbalance_eq (s : State) :
    s.watchImbalance = { s with panto := { s.panto with imbalanceTimer := s.watchedImbalance } } := by
  unfold State.watchImbalance State.watchedImbalance State.watched
  cases s.forceCounted <;> simp [State.qualify_eq]

/-- A difference above the limit leaves the episode as it is, so the timer may be told by the episode before the set. -/
theorem State.watchedImbalance_headsPanto (s : State) :
    State.watchedImbalance { s with panto := s.headsPanto } = s.watchedImbalance := by
  by_cases h : s.config.imbalanceLimit < s.headDifference
  · have hsame : s.headsPanto = s.panto := by
      simp [State.headsPanto, Nat.not_le.2 h]
    rw [hsame]
  · have hdiff : State.headDifference { s with panto := s.headsPanto } = s.headDifference := rfl
    simp only [State.watchedImbalance, hdiff, h, decide_false, Bool.false_and, Bool.false_eq_true, if_false]
    rfl

/-- The set after the heads' episode, by the state of the pantograph. -/
theorem State.setInPantograph_eq (s : State) : s.setInPantograph = match s.panto.state with
    | .raising => State.setInRaising { s with panto := s.headsPanto }
    | .contact => State.watchImbalance (State.watchLoss (State.regulate { s with panto := s.headsPanto }))
    | .unloading => State.setInUnloading { s with panto := s.headsPanto }
    | .lowering => State.setInLowering { s with panto := s.headsPanto }
    | _ => { s with panto := s.headsPanto } := by
  unfold State.setInPantograph
  rw [s.setInEpisodeOfHeads_eq]
  dsimp only
  have hstate : s.headsPanto.state = s.panto.state := rfl
  rw [hstate]
  cases s.panto.state <;> rfl

theorem State.setInPantograph_of_raising {s : State} (h : s.panto.state = .raising) :
    s.setInPantograph = State.setInRaising { s with panto := s.headsPanto } := by
  rw [s.setInPantograph_eq, h]

theorem State.setInPantograph_of_contact {s : State} (h : s.panto.state = .contact) : s.setInPantograph =
    State.watchImbalance (State.watchLoss (State.regulate { s with panto := s.headsPanto })) := by
  rw [s.setInPantograph_eq, h]

theorem State.setInPantograph_of_unloading {s : State} (h : s.panto.state = .unloading) :
    s.setInPantograph = State.setInUnloading { s with panto := s.headsPanto } := by
  rw [s.setInPantograph_eq, h]

theorem State.setInPantograph_of_lowering {s : State} (h : s.panto.state = .lowering) :
    s.setInPantograph = State.setInLowering { s with panto := s.headsPanto } := by
  rw [s.setInPantograph_eq, h]

/-- A pantograph at rest takes nothing of a set but the end of an imbalance episode. -/
theorem State.setInPantograph_of_rest {s : State} (h : s.panto.state = .lowered ∨ s.panto.state = .faulted) :
    s.setInPantograph = { s with panto := s.headsPanto } := by
  rw [s.setInPantograph_eq]
  rcases h with h | h
  all_goals simp only [h]

theorem State.setInContact_eq (s : State) : s.regulate.watchLoss.watchImbalance = { s with panto := { s.panto with
    holdDuty := s.regulatedDuty
    lossTimer := s.watched s.panto.lossTimer (decide (s.totalForce < s.config.lossThreshold)) (10 * s.config.lossTime)
    imbalanceTimer := s.watchedImbalance } } := by
  rw [s.regulate_eq, State.watchLoss_eq, State.watchImbalance_eq]
  rfl

/-- R125, R126: the top stop ends the raise. -/
theorem State.setInRaising_of_topStop {s : State} (h : s.validChannel 4 = true ∧ s.config.topStop ≤ s.code 4) :
    s.setInRaising = s.endRaise := by
  rw [State.setInRaising, s.watchContact_eq]
  exact if_pos (Bool.and_eq_true_iff.2 ⟨h.1, decide_eq_true h.2⟩)

theorem State.setInRaising_of_below {s : State} (h : ¬ (s.validChannel 4 = true ∧ s.config.topStop ≤ s.code 4)) :
    s.setInRaising = s.watchContact := by
  rw [State.setInRaising, s.watchContact_eq]
  exact if_neg fun htop => h ((Bool.and_eq_true_iff.1 htop).imp_right of_decide_eq_true)

/-- R130: a current at or below the release current ends the unloading. -/
theorem State.setInUnloading_of_released {s : State} (h : s.validChannel 0 = true ∧ s.code 0 ≤ s.config.releaseCurrent) :
    s.setInUnloading = s.regulate.watchLoss.enterLowering := by
  rw [State.setInUnloading, s.regulate_eq, State.watchLoss_eq]
  exact if_pos (Bool.and_eq_true_iff.2 ⟨h.1, decide_eq_true h.2⟩)

theorem State.setInUnloading_of_drawing {s : State} (h : ¬ (s.validChannel 0 = true ∧ s.code 0 ≤ s.config.releaseCurrent)) :
    s.setInUnloading = s.regulate.watchLoss := by
  rw [State.setInUnloading, s.regulate_eq, State.watchLoss_eq]
  exact if_neg fun hreleased => h ((Bool.and_eq_true_iff.1 hreleased).imp_right of_decide_eq_true)

theorem State.setInLowering_of_down {s : State} (h : s.validChannel 4 = true ∧ s.code 4 ≤ s.config.loweredThreshold) :
    s.setInLowering = s.enterLowered :=
  if_pos (Bool.and_eq_true_iff.2 ⟨h.1, decide_eq_true h.2⟩)

theorem State.setInLowering_of_up {s : State} (h : ¬ (s.validChannel 4 = true ∧ s.code 4 ≤ s.config.loweredThreshold)) :
    s.setInLowering = s :=
  if_neg fun hdown => h ((Bool.and_eq_true_iff.1 hdown).imp_right of_decide_eq_true)

/-- Settles O42, state by state. -/
theorem setsDriveThePantograph : Obligations.SetsDriveThePantograph := by
  intro s counted force difference band duty watch loss p lowering
  refine ⟨fun hstate hvalid htop => ?_, fun hstate hbelow => ?_, fun hstate => ?_, fun hstate hvalid hreleased => ?_,
    fun hstate hdrawing => ?_, fun hstate hvalid hdown => ?_, fun hstate hup => ?_, fun hstate => ?_⟩
  · rw [State.setInPantograph_of_raising hstate]
    exact State.setInRaising_of_topStop (s := { s with panto := s.headsPanto }) ⟨hvalid, htop⟩
  · rw [State.setInPantograph_of_raising hstate]
    refine (State.setInRaising_of_below (s := { s with panto := s.headsPanto }) hbelow).trans ?_
    rw [State.watchContact_eq]
    rfl
  · rw [State.setInPantograph_of_contact hstate]
    refine (State.setInContact_eq { s with panto := s.headsPanto }).trans ?_
    rw [State.watchedImbalance_headsPanto]
    rfl
  · rw [State.setInPantograph_of_unloading hstate]
    refine (State.setInUnloading_of_released (s := { s with panto := s.headsPanto }) ⟨hvalid, hreleased⟩).trans ?_
    rw [State.regulate_eq, State.watchLoss_eq]
    rfl
  · rw [State.setInPantograph_of_unloading hstate]
    refine (State.setInUnloading_of_drawing (s := { s with panto := s.headsPanto }) hdrawing).trans ?_
    rw [State.regulate_eq, State.watchLoss_eq]
    rfl
  · rw [State.setInPantograph_of_lowering hstate]
    have hentered := State.setInLowering_of_down (s := { s with panto := s.headsPanto }) ⟨hvalid, hdown⟩
    exact ⟨fun hempty => hentered.trans (State.enterLowered_of_empty hempty),
      fun hpending => hentered.trans (State.enterLowered_of_pending hpending)⟩
  · rw [State.setInPantograph_of_lowering hstate]
    exact State.setInLowering_of_up (s := { s with panto := s.headsPanto }) hup
  · exact State.setInPantograph_of_rest hstate

end Sys2Proof.Machine

/-! ## The Sweeper's sweeps -/

namespace Sys2Proof.Machine

/-! ### The codes of a set (R139 to R141) -/

theorem Sweeper.publish_code (w : Sweeper) (samples : Vector Code 18) {n : Nat} (hn : n < 8) :
    (w.publish samples).published.codes.toList.getD n 0 = w.nextCode samples n := by
  interval_cases n <;> rfl

theorem Sweeper.nextCode_of_open {w : Sweeper} {n : Nat} (samples : Vector Code 18) (h : w.openFlags.getLsbD n = true) :
    w.nextCode samples n = w.published.codes.toList.getD n 0 := if_pos h

theorem Sweeper.nextCode_of_good {w : Sweeper} {n : Nat} (samples : Vector Code 18) (h : w.openFlags.getLsbD n = false) :
    w.nextCode samples n = sweepCode samples n := if_neg (Bool.eq_false_iff.1 h)

/-- The mean of six codes is a code. -/
theorem toNat_mean_of_six (a b c d e f : Code) :
    (BitVec.ofNat 12 ((a.toNat + b.toNat + c.toNat + d.toNat + e.toNat + f.toNat) / 6)).toNat =
      (a.toNat + b.toNat + c.toNat + d.toNat + e.toNat + f.toNat) / 6 := by
  rw [BitVec.toNat_ofNat]
  exact Nat.mod_eq_of_lt (by omega)

theorem toNat_sweepCode_zero (samples : Vector Code 18) :
    (sweepCode samples 0).toNat = ((samples.toList.getD 0 0).toNat + (samples.toList.getD 3 0).toNat +
      (samples.toList.getD 6 0).toNat + (samples.toList.getD 9 0).toNat + (samples.toList.getD 12 0).toNat +
      (samples.toList.getD 15 0).toNat) / 6 := by
  rw [← toNat_mean_of_six]
  simp only [sweepCode, sweepPositions, List.map_cons, List.map_nil, List.sum_cons, List.sum_nil, List.length_cons,
    List.length_nil, ← Nat.add_assoc, Nat.add_zero]

theorem toNat_sweepCode_one (samples : Vector Code 18) :
    (sweepCode samples 1).toNat = ((samples.toList.getD 1 0).toNat + (samples.toList.getD 4 0).toNat +
      (samples.toList.getD 7 0).toNat + (samples.toList.getD 10 0).toNat + (samples.toList.getD 13 0).toNat +
      (samples.toList.getD 16 0).toNat) / 6 := by
  rw [← toNat_mean_of_six]
  simp only [sweepCode, sweepPositions, List.map_cons, List.map_nil, List.sum_cons, List.sum_nil, List.length_cons,
    List.length_nil, ← Nat.add_assoc, Nat.add_zero]

/-- Channels 2 to 7 are converted once in a sweep, channel n at position 3n − 4 (R140). -/
theorem sweepCode_of_single (samples : Vector Code 18) {n : Nat} (hlow : 2 ≤ n) (hhigh : n < 8) :
    sweepCode samples n = samples.toList.getD (3 * n - 4) 0 := by
  have hpositions : sweepPositions n = [3 * n - 4] := by interval_cases n <;> rfl
  simp [sweepCode, hpositions]

/-- SWEEP_COMPLETE leaves the Sweeper so (R140 to R142, R145). -/
def Sweeper.completed (w : Sweeper) (samples : Vector Code 18) (clock : Nat) : Sweeper :=
  (w.publish (w.sweepSamples samples)).finishSweep clock

/-- A test falls due with the 64th sweep, or stands pending (R142). -/
theorem Sweeper.completed_testPending (w : Sweeper) (samples : Vector Code 18) (clock : Nat) (hcounter : w.sweepCounter < 64) :
    (w.completed samples clock).testPending = true ↔ w.testPending = true ∨ w.sweepCounter = 63 := by
  have hwraps : (w.sweepCounter + 1) % 64 = 0 ↔ w.sweepCounter = 63 := by omega
  simp [Sweeper.completed, Sweeper.finishSweep, Sweeper.publish, hwraps]

theorem Sweeper.completed_conversion (w : Sweeper) (samples : Vector Code 18) (clock : Nat) :
    (w.completed samples clock).conversion =
      if (w.completed samples clock).testPending then .test clock else .sweep clock := rfl

theorem State.passSet_of_truck {s : State} (h : s.isTruck = true) : s.passSet = s.setInShareEngine.setInPantograph := if_pos h

theorem State.passSet_of_feeder {s : State} (h : s.isTruck = false) : s.passSet = s.setInFeeder := if_neg (by simp [h])

/-- Settles O44: the Sweeper as the sweep leaves it, and the set passed on by role. -/
theorem sweepPublishesAWholeSet : Obligations.SweepPublishesAWholeSet := by
  intro t since samples s hready hsweep hend hcounter sample due
  have hsample : ∀ k, k < 18 → ((s.sweeper.sweepSamples samples).toList.getD k 0).toNat = sample k := fun k hk =>
    congrArg BitVec.toNat (Sweeper.sweepSamples_getD s.sweeper samples k hk)
  have hexec := exec_sweepComplete samples hready hsweep hend
  generalize ha : ({ s.takenAt t with sweeper := s.sweeper.completed samples (max s.clock t) } : State) = a
  replace hexec : exec (.sweepComplete t samples) s = .next a.passSet := by rw [hexec, ← ha]; rfl
  have hsweeper : a.passSet.sweeper = s.sweeper.completed samples (max s.clock t) := by
    rw [← ha]
    simp
  have hclock : a.passSet.clock = max s.clock t := by
    rw [← ha]
    simp [State.takenAt_clock_of_ready t s hready]
  have hcode : ∀ n, n < 8 → a.passSet.code n = (s.sweeper.nextCode (s.sweeper.sweepSamples samples) n).toNat := fun n hn => by
    rw [State.code, hsweeper]
    exact congrArg BitVec.toNat (s.sweeper.publish_code (s.sweeper.sweepSamples samples) hn)
  have hdue : a.passSet.sweeper.testPending = true ↔ due := hsweeper ▸ s.sweeper.completed_testPending samples _ hcounter
  have hnext : a.passSet.sweeper.conversion =
      if a.passSet.sweeper.testPending then .test (max s.clock t) else .sweep (max s.clock t) := by
    rw [hsweeper]
    exact s.sweeper.completed_conversion samples _
  refine ⟨_, hexec, hclock, by rw [hsweeper]; rfl, fun n hn hopen => ?_, fun hgood => ?_, fun hgood => ?_,
    fun n hlow hhigh hgood => ?_, ?_, hdue, fun h => ?_, fun h => ?_, by rw [hsweeper]; rfl, fun n hn => ?_, fun htruck => ?_,
    fun hfeeder => ?_⟩
  · rw [hcode n hn, Sweeper.nextCode_of_open _ hopen]
    rfl
  · rw [hcode 0 (by decide), Sweeper.nextCode_of_good _ hgood, toNat_sweepCode_zero]
    simp only [hsample, Nat.reduceLT]
  · rw [hcode 1 (by decide), Sweeper.nextCode_of_good _ hgood, toNat_sweepCode_one]
    simp only [hsample, Nat.reduceLT]
  · rw [hcode n hhigh, Sweeper.nextCode_of_good _ hgood, sweepCode_of_single _ hlow hhigh, hsample _ (by omega)]
  · rw [hsweeper]
    change (s.sweeper.sweepCounter + 1) % 64 = _
    split <;> omega
  · rw [hnext, if_pos (hdue.2 h)]
  · rw [hnext, if_neg (mt hdue.1 h)]
  · have hna : n = a := by rw [hn, hsweeper, ha]
    have hrole : a.isTruck = s.isTruck := by rw [← ha]; rfl
    rw [hna]
    exact ⟨fun h => State.passSet_of_truck (hrole.trans h), fun h => State.passSet_of_feeder (hrole.trans h)⟩
  · have hrole : a.isTruck = true := by rw [← ha]; exact htruck
    rw [State.passSet_of_truck hrole, ← ha, State.takenAt_of_ready t s hready]
    apply State.eq_of_fields <;> simp
  · have hrole : a.isTruck = false := by rw [← ha]; exact hfeeder
    rw [State.passSet_of_feeder hrole, ← ha, State.takenAt_of_ready t s hready]
    apply State.eq_of_fields <;> simp

end Sys2Proof.Machine

/-! ## Open-wire tests and arc starts -/

namespace Sys2Proof.Machine

/-! ### A flag becoming set on a truck (R56, R133, R144) -/

@[simp] theorem State.openedOnTruck_port (s : State) (degradedBefore faultBefore : Bool) :
    (s.openedOnTruck degradedBefore faultBefore).port = s.port.raise .sensorOpen := by
  simp only [State.openedOnTruck]
  (repeat' split) <;> simp

theorem State.openedOnTruck_of_none {s : State} {degradedBefore faultBefore : Bool}
    (hdegraded : (s.degradedStands && !degradedBefore) = false) (hfault : (s.sensorFault && !faultBefore) = false) :
    s.openedOnTruck degradedBefore faultBefore = s.raise .sensorOpen := by
  have hcalm : (if (s.raise .sensorOpen).degradedStands && !degradedBefore then (s.raise .sensorOpen).floorOnset
      else s.raise .sensorOpen) = s.raise .sensorOpen := if_neg (Bool.eq_false_iff.1 hdegraded)
  rw [State.openedOnTruck, hcalm]
  exact if_neg (Bool.eq_false_iff.1 hfault)

/-- R56: DEGRADED begins with the test. -/
theorem State.openedOnTruck_of_degraded {s : State} {degradedBefore faultBefore : Bool}
    (hdegraded : (s.degradedStands && !degradedBefore) = true) (hfault : (s.sensorFault && !faultBefore) = false) :
    s.openedOnTruck degradedBefore faultBefore = (s.raise .sensorOpen).floorOnset := by
  have honset : (if (s.raise .sensorOpen).degradedStands && !degradedBefore then (s.raise .sensorOpen).floorOnset
      else s.raise .sensorOpen) = (s.raise .sensorOpen).floorOnset := if_pos hdegraded
  have hsame : (s.raise .sensorOpen).floorOnset.sensorFault = s.sensorFault := by
    simp [State.sensorFault, State.isTruck, State.openChannel]
  rw [State.openedOnTruck, honset, hsame]
  exact if_neg (Bool.eq_false_iff.1 hfault)

/-- R133: the sensor fault begins with the test. -/
theorem State.openedOnTruck_of_fault {s : State} {degradedBefore faultBefore : Bool}
    (hdegraded : (s.degradedStands && !degradedBefore) = false) (hfault : (s.sensorFault && !faultBefore) = true) :
    s.openedOnTruck degradedBefore faultBefore = (s.raise .sensorOpen).sensorFaultSet := by
  have hcalm : (if (s.raise .sensorOpen).degradedStands && !degradedBefore then (s.raise .sensorOpen).floorOnset
      else s.raise .sensorOpen) = s.raise .sensorOpen := if_neg (Bool.eq_false_iff.1 hdegraded)
  rw [State.openedOnTruck, hcalm]
  exact if_pos hfault

theorem State.sensorFaultSet_of_contact {s : State} (h : s.panto.state = .contact) :
    s.sensorFaultSet = (s.enterUnloading none).contactLeft true := by
  rw [State.sensorFaultSet, h]

theorem State.sensorFaultSet_of_raising {s : State} (h : s.panto.state = .raising) : s.sensorFaultSet = s.enterLowering := by
  rw [State.sensorFaultSet, h]

theorem State.sensorFaultSet_of_other {s : State} (hcontact : s.panto.state ≠ .contact) (hraising : s.panto.state ≠ .raising) :
    s.sensorFaultSet = s := by
  unfold State.sensorFaultSet
  cases h : s.panto.state with
  | contact => exact absurd h hcontact
  | raising => exact absurd h hraising
  | _ => rfl

/-! ### The test's result (R142, R143) -/

/-- The state once the result is in the flags, before anything acts on it. -/
def State.afterTest (s : State) (t : Nat) (test : WireTest) : State :=
  State.tested { s with clock := max s.clock t } (findsOpen test)

/-- The state after the test, by whether the tested channel's flag becomes set, and by role. -/
def State.testTaken (s : State) (t : Nat) (test : WireTest) : State :=
  if findsOpen test && !s.openChannel s.sweeper.rotation.val then
    if s.isTruck then (s.afterTest t test).openedOnTruck s.degradedStands s.sensorFault
    else (s.afterTest t test).openedOnFeeder s.sweeper.rotation.val
  else s.afterTest t test

theorem exec_openWireTestComplete {t since : Nat} {s : State} (test : WireTest) (hready : s.startup = .ready)
    (htest : s.sweeper.conversion = .test since) (hend : since + 40 ≤ max s.clock t) :
    exec (.openWireTestComplete t test) s = .next (s.testTaken t test) := by
  change execOpenWireTestComplete t test s = _
  rw [execOpenWireTestComplete, State.takenAt_of_ready t s hready]
  simp only [htest]
  exact congrArg Host.Outcome.next (if_pos hend)

theorem findsOpen_iff (test : WireTest) : findsOpen test = true ↔ 4000 ≤ test.pullUp.toNat ∧ test.pullDown.toNat ≤ 95 := by
  simp [findsOpen]

theorem State.testTaken_sweeper (s : State) (t : Nat) (test : WireTest) :
    (s.testTaken t test).sweeper = s.sweeper.finishTest (findsOpen test) (max s.clock t) := by
  unfold State.testTaken
  (repeat' split) <;> simp [State.afterTest, State.tested]

theorem State.testTaken_clock (s : State) (t : Nat) (test : WireTest) : (s.testTaken t test).clock = max s.clock t := by
  unfold State.testTaken
  (repeat' split) <;> simp [State.afterTest, State.tested]

theorem State.testTaken_openChannel (s : State) (t : Nat) (test : WireTest) (k : Nat) :
    (s.testTaken t test).openChannel k = if k = s.sweeper.rotation then findsOpen test else s.openChannel k := by
  rw [State.openChannel, s.testTaken_sweeper]
  exact getLsbD_setFlag ..

section Opened

variable {t : Nat} {test : WireTest} {s : State}

/-- The tested channel's flag becomes set. -/
def State.becomesOpen (s : State) (test : WireTest) : Prop :=
  (4000 ≤ test.pullUp.toNat ∧ test.pullDown.toNat ≤ 95) ∧ s.openChannel s.sweeper.rotation.val = false

theorem State.becomesOpen_iff : s.becomesOpen test ↔ (findsOpen test && !s.openChannel s.sweeper.rotation.val) = true := by
  rw [State.becomesOpen, ← findsOpen_iff, Bool.and_eq_true, Bool.not_eq_true']

theorem State.testTaken_of_not_opened (h : ¬ s.becomesOpen test) : s.testTaken t test = s.afterTest t test :=
  if_neg (mt State.becomesOpen_iff.2 h)

theorem State.testTaken_of_truck (h : s.becomesOpen test) (htruck : s.isTruck = true) :
    s.testTaken t test = (s.afterTest t test).openedOnTruck s.degradedStands s.sensorFault :=
  (if_pos (State.becomesOpen_iff.1 h)).trans (if_pos htruck)

theorem State.testTaken_of_feeder (h : s.becomesOpen test) (hfeeder : s.isTruck = false) :
    s.testTaken t test = (s.afterTest t test).openedOnFeeder s.sweeper.rotation.val :=
  (if_pos (State.becomesOpen_iff.1 h)).trans (if_neg (Bool.eq_false_iff.1 hfeeder))

theorem State.afterTest_openChannel (k : Nat) :
    (s.afterTest t test).openChannel k = if k = s.sweeper.rotation then findsOpen test else s.openChannel k :=
  State.openChannel_tested ..

/-- DEGRADED is told by channels 0 and 1 alone. -/
theorem State.afterTest_degradedStands_of_other (h : 2 ≤ s.sweeper.rotation.val) :
    (s.afterTest t test).degradedStands = s.degradedStands := by
  have h0 : (s.afterTest t test).openChannel 0 = s.openChannel 0 := by
    rw [State.afterTest_openChannel, if_neg (by omega)]
  have h1 : (s.afterTest t test).openChannel 1 = s.openChannel 1 := by
    rw [State.afterTest_openChannel, if_neg (by omega)]
  rw [State.degradedStands, h0, h1]
  rfl

/-- The sensor fault is told by channels 2 to 4 alone. -/
theorem State.afterTest_sensorFault_of_other (h : s.sweeper.rotation.val < 2 ∨ 4 < s.sweeper.rotation.val) :
    (s.afterTest t test).sensorFault = s.sensorFault := by
  have hkept : ∀ k, 2 ≤ k → k ≤ 4 → (s.afterTest t test).openChannel k = s.openChannel k := fun k _ _ => by
    rw [State.afterTest_openChannel, if_neg (by omega)]
  rw [State.sensorFault, hkept 2 (by decide) (by decide), hkept 3 (by decide) (by decide), hkept 4 (by decide) (by decide)]
  rfl

theorem State.afterTest_open_of_becomesOpen (h : s.becomesOpen test) :
    (s.afterTest t test).openChannel s.sweeper.rotation.val = true := by
  rw [State.afterTest_openChannel, if_pos rfl]
  exact (findsOpen_iff test).2 h.1

theorem State.afterTest_degradedStands_of_open (h : s.becomesOpen test) (htruck : s.isTruck = true)
    (hn : s.sweeper.rotation.val ≤ 1) : (s.afterTest t test).degradedStands = true := by
  have hopen := State.afterTest_open_of_becomesOpen (t := t) h
  refine (State.degradedStands_iff _).2 ⟨htruck, .inr ?_⟩
  interval_cases hrotation : s.sweeper.rotation.val
  · exact .inl hopen
  · exact .inr hopen

theorem State.afterTest_sensorFault_of_open (h : s.becomesOpen test) (htruck : s.isTruck = true)
    (hlow : 2 ≤ s.sweeper.rotation.val) (hhigh : s.sweeper.rotation.val ≤ 4) : (s.afterTest t test).sensorFault = true := by
  have hopen := State.afterTest_open_of_becomesOpen (t := t) h
  refine (State.sensorFault_of_truck (s := s.afterTest t test) htruck).2 ?_
  interval_cases hrotation : s.sweeper.rotation.val
  · exact .inl hopen
  · exact .inr (.inl hopen)
  · exact .inr (.inr hopen)

theorem State.testTaken_of_degraded (h : s.becomesOpen test) (htruck : s.isTruck = true) (hn : s.sweeper.rotation.val ≤ 1) :
    s.testTaken t test = if s.degradedStands then (s.afterTest t test).raise .sensorOpen
      else ((s.afterTest t test).raise .sensorOpen).floorOnset := by
  have hdegraded := State.afterTest_degradedStands_of_open (t := t) h htruck hn
  have hfault : ((s.afterTest t test).sensorFault && !s.sensorFault) = false := by
    rw [State.afterTest_sensorFault_of_other (.inl (by omega)), Bool.and_not_self]
  rw [State.testTaken_of_truck h htruck]
  cases hbefore : s.degradedStands with
  | true => exact State.openedOnTruck_of_none (by simp) hfault
  | false => exact State.openedOnTruck_of_degraded (by simp [hdegraded]) hfault

theorem State.testTaken_of_fault (h : s.becomesOpen test) (htruck : s.isTruck = true) (hlow : 2 ≤ s.sweeper.rotation.val)
    (hhigh : s.sweeper.rotation.val ≤ 4) (hbefore : s.sensorFault = false) :
    s.testTaken t test = ((s.afterTest t test).raise .sensorOpen).sensorFaultSet := by
  have hfault := State.afterTest_sensorFault_of_open (t := t) h htruck hlow hhigh
  rw [State.testTaken_of_truck h htruck]
  refine State.openedOnTruck_of_fault ?_ (by simp [hfault, hbefore])
  rw [State.afterTest_degradedStands_of_other hlow, Bool.and_not_self]

theorem State.testTaken_of_neither (h : s.becomesOpen test) (htruck : s.isTruck = true)
    (hneither : 5 ≤ s.sweeper.rotation.val ∨ 2 ≤ s.sweeper.rotation.val ∧ s.sensorFault = true) :
    s.testTaken t test = (s.afterTest t test).raise .sensorOpen := by
  rw [State.testTaken_of_truck h htruck]
  refine State.openedOnTruck_of_none ?_ ?_
  · rw [State.afterTest_degradedStands_of_other (by omega), Bool.and_not_self]
  · rcases hneither with hn | ⟨-, hbefore⟩
    · rw [State.afterTest_sensorFault_of_other (.inr (by omega)), Bool.and_not_self]
    · rw [hbefore, Bool.not_true, Bool.and_false]

end Opened

/-- SILENT is told by the link, the configuration and the phase, not by the Sweeper. -/
theorem State.mode_silent_withSweeper (s : State) (w : Sweeper) :
    State.mode { s with sweeper := w } = .silent ↔ s.mode = .silent := by
  rw [State.mode_eq_silent_iff, State.mode_eq_silent_iff]
  rfl

/-- Settles O45, by whether the flag becomes set, the role and the channel. -/
theorem openWireTestSetsItsChannelsFlag : Obligations.OpenWireTestSetsItsChannelsFlag := by
  intro t since test s hready htest hend n found opened
  rw [State.takenAt_of_ready t s hready]
  have hsweeper := s.testTaken_sweeper t test
  refine ⟨s.testTaken t test, exec_openWireTestComplete test hready htest hend, s.testTaken_clock t test, ?_, fun k _ hk => ?_, ?_,
    ?_, fun h => ?_, fun h hrole => ?_, fun h htruck hn => ?_, fun h htruck hlow hhigh hbefore => ?_,
    fun h htruck hneither => ?_, fun h hfeeder hn => ?_, fun h hfeeder hn => ?_⟩
  · rw [State.testTaken_openChannel, if_pos rfl]
    exact findsOpen_iff test
  · rw [State.testTaken_openChannel, if_neg hk]
  · rw [hsweeper]
    exact Fin.val_add _ _
  · rw [hsweeper]
    rfl
  · rw [State.testTaken_of_not_opened h]
    rfl
  · by_cases htruck : s.isTruck = true
    · rw [State.testTaken_of_truck h htruck, State.openedOnTruck_port]
      rfl
    · rw [State.testTaken_of_feeder h (Bool.eq_false_iff.2 htruck), State.openedOnFeeder,
        if_pos (hrole.resolve_left htruck)]
      rfl
  · rw [State.testTaken_of_degraded h htruck hn]
    refine ⟨fun hbefore => ?_, fun hbefore => ?_, ?_⟩
    · rw [hbefore]
      exact State.immediateCap_lim_congr _ _ _ rfl rfl rfl
    · rw [hbefore]
      rfl
    · cases s.degradedStands
      · apply State.eq_of_fields <;> simp [State.afterTest, State.tested]
      · rfl
  · rw [State.testTaken_of_fault h htruck hlow hhigh hbefore]
    refine ⟨fun hcontact => ?_, fun hraising => ?_, fun hcontact hraising => ?_, fun hcontact => ?_, ?_⟩
    · have left := State.left_contactLeft (s := { s with sweeper := s.sweeper.finishTest (findsOpen test) (max s.clock t) })
        htruck t (s.unloadingPanto t none) (s.port.raise .sensorOpen) true
      have hmode := State.mode_silent_withSweeper s (s.sweeper.finishTest (findsOpen test) (max s.clock t))
      rw [State.sensorFaultSet_of_contact (s := (s.afterTest t test).raise .sensorOpen) hcontact]
      exact ⟨left.panto, left.share, left.lim.trans (State.immediateCap_lim_congr _ _ _ rfl rfl rfl), left.periodic, left.shed,
        fun hactive hspeaks => ⟨_, left.departs rfl hactive (mt hmode.1 hspeaks), rfl⟩,
        fun hstays => left.stays (.inr (hstays.imp_right hmode.2))⟩
    · rw [State.sensorFaultSet_of_raising (s := (s.afterTest t test).raise .sensorOpen) hraising]
      rfl
    · rw [State.sensorFaultSet_of_other (s := (s.afterTest t test).raise .sensorOpen) hcontact hraising]
      rfl
    · by_cases hraising : s.panto.state = .raising
      · rw [State.sensorFaultSet_of_raising (s := (s.afterTest t test).raise .sensorOpen) hraising]
        exact ⟨rfl, rfl, rfl⟩
      · rw [State.sensorFaultSet_of_other (s := (s.afterTest t test).raise .sensorOpen) hcontact hraising]
        exact ⟨rfl, rfl, rfl⟩
    · apply State.eq_of_fields <;> simp [State.afterTest, State.tested]
  · rw [State.testTaken_of_neither h htruck hneither]
    rfl
  · rw [State.testTaken_of_feeder h hfeeder, State.openedOnFeeder, if_pos hn]
    rfl
  · rw [State.testTaken_of_feeder h hfeeder, State.openedOnFeeder, if_neg (by omega)]
    rfl

/-! ### Arc starts (R145 to R147, R154, R155, R163) -/

theorem State.arcGate_shut {s : State} (h : s.panto.state = .lowered ∨ s.panto.state = .faulted) : s.arcGate ≠ true := fun hgate => by
  obtain ⟨-, hlowered, hfaulted⟩ := s.arcGate_iff.1 hgate
  exact h.elim hlowered hfaulted

theorem exec_arcStart_of_shut {t : Nat} {s : State} (hready : s.startup = .ready)
    (h : s.panto.state = .lowered ∨ s.panto.state = .faulted) :
    exec (.arcStart t) s = .next { s with clock := max s.clock t } := by
  change execArcStart t s = _
  rw [execArcStart, State.takenAt_of_ready t s hready]
  exact congrArg Host.Outcome.next (if_neg (State.arcGate_shut (s := { s with clock := max s.clock t }) h))

theorem exec_arcEnd_of_shut {t : Nat} {s : State} (hready : s.startup = .ready)
    (h : s.panto.state = .lowered ∨ s.panto.state = .faulted) :
    exec (.arcEnd t) s = .next { s with clock := max s.clock t } := by
  change execArcEnd t s = _
  rw [execArcEnd, State.takenAt_of_ready t s hready]
  exact congrArg Host.Outcome.next (if_neg (State.arcGate_shut (s := { s with clock := max s.clock t }) h))

theorem exec_arcStart_of_open {t : Nat} {s : State} (hready : s.startup = .ready) (hlowered : s.panto.state ≠ .lowered)
    (hfaulted : s.panto.state ≠ .faulted) :
    exec (.arcStart t) s = .next { s with
      clock := max s.clock t
      arc := s.arc.start (max s.clock t) (State.arcNow { s with clock := max s.clock t })
      sweeper := s.sweeper.restart (max s.clock t) } := by
  change execArcStart t s = _
  rw [execArcStart, State.takenAt_of_ready t s hready]
  exact congrArg Host.Outcome.next (if_pos ((State.arcGate_iff _).2 ⟨hready, hlowered, hfaulted⟩))

theorem startArc_of_room (now : ArcTime) {l : List ArcRecord} (h : l.length < 2) : startArc now l = l ++ [newArc now] := by
  match l with
  | [] => rfl
  | [r] => rfl
  | r :: q :: rest => simp at h

theorem ArcMonitor.start_frame (a : ArcMonitor) (clock : Nat) (now : ArcTime) :
    a.start clock now = { a with pending := (a.start clock now).pending } := by
  unfold ArcMonitor.start
  split <;> rfl

/-- A restart request, before what is being converted is looked at (R146, R147). -/
def Sweeper.asked (w : Sweeper) (clock : Nat) : Sweeper :=
  { w with
    pairRequest := some clock
    heldSample := match w.heldSample with
      | some h => if h.since + 20 ≤ clock then some h else none
      | none => none }

theorem Sweeper.asked_eq (w : Sweeper) (clock : Nat) :
    { w with pairRequest := some clock, heldSample := w.heldSample.filter (·.paired clock) } = w.asked clock := by
  unfold Sweeper.asked
  cases hheld : w.heldSample with
  | none => rfl
  | some h =>
    by_cases hpaired : h.since + 20 ≤ clock <;> simp [HeldSample.paired, conversionTime, hpaired, Option.filter]

/-- R145: a sweep starts again, at most four times in a row. -/
theorem Sweeper.restart_of_sweep {w : Sweeper} {since : Nat} (clock : Nat) (h : w.conversion = .sweep since) :
    w.restart clock = if w.abortCount < 4
      then { (w.asked clock).startSweep clock with abortCount := w.abortCount + 1 } else w.asked clock := by
  rw [Sweeper.restart, Sweeper.asked_eq]
  have hasked : (w.asked clock).conversion = .sweep since := h
  simp only [hasked]
  rfl

/-- R146: a test is abandoned. -/
theorem Sweeper.restart_of_test {w : Sweeper} {since : Nat} (clock : Nat) (h : w.conversion = .test since) :
    w.restart clock = (w.asked clock).startSweep clock := by
  rw [Sweeper.restart, Sweeper.asked_eq]
  have hasked : (w.asked clock).conversion = .test since := h
  simp only [hasked]

/-- Settles O46, by the gate, the records pending and what is being converted. -/
theorem arcStartOpensARecordAndRestartsTheSweep : Obligations.ArcStartOpensARecordAndRestartsTheSweep := by
  intro t s hready now asked
  have hnow : now = State.arcNow { s with clock := max s.clock t } :=
    congrArg State.arcNow (State.takenAt_of_ready t s hready)
  refine ⟨fun hshut => ⟨exec_arcStart_of_shut hready hshut, exec_arcEnd_of_shut hready hshut⟩, fun hlowered hfaulted =>
    ⟨_, exec_arcStart_of_open hready hlowered hfaulted, ?_⟩⟩
  rw [← hnow]
  refine ⟨fun hreset => ?_, fun hlater hroom => ?_, fun r q hlater hpending => ?_, s.arc.start_frame _ _, fun since hsweep =>
    ⟨fun hfew => ?_, fun hmany => ?_⟩, fun since htest => ?_, rfl⟩
  · exact s.arc.start_of_reset _ _ hreset
  · rw [s.arc.start_of_later _ _ hlater]
    exact startArc_of_room now hroom
  · rw [s.arc.start_of_later _ _ hlater, hpending]
    rfl
  · rw [Sweeper.restart_of_sweep _ hsweep, if_pos hfew]
    rfl
  · rw [Sweeper.restart_of_sweep _ hsweep, if_neg (Nat.not_lt.2 hmany)]
    rfl
  · rw [Sweeper.restart_of_test _ htest]
    rfl

end Sys2Proof.Machine

/-! ## The line: frames due, sent, deferred and selected -/

namespace Sys2Proof.Machine

/-! ### Selection (R111, R112) -/

theorem CarrierLink.select_of_urgent {l : CarrierLink} {k : Slot} (now : Nat) (h : l.nextUrgent = some k) :
    l.select now = { l with transmitter := .waiting k now } := by
  rw [CarrierLink.select, h]

theorem CarrierLink.nextUrgent_of_none {l : CarrierLink} (hshed : l.shed = none) (hdepart : l.depart = none) :
    l.nextUrgent = none := by
  rw [CarrierLink.nextUrgent, hshed, hdepart]

/-- The SHED goes first where no DEPART waits, or where it was queued first. -/
theorem CarrierLink.nextUrgent_of_shed {l : CarrierLink} (hshed : l.shed ≠ none) (h : l.depart = none ∨ l.departFirst = false) :
    l.nextUrgent = some .shed := by
  obtain ⟨q, hq⟩ := Option.ne_none_iff_exists'.1 hshed
  unfold CarrierLink.nextUrgent
  cases hdepart : l.depart with
  | none => rw [hq]
  | some r =>
    have hfirst := h.resolve_left (by simp [hdepart])
    simp [hq, hfirst]

theorem CarrierLink.nextUrgent_of_depart {l : CarrierLink} (hdepart : l.depart ≠ none) (h : l.shed = none ∨ l.departFirst = true) :
    l.nextUrgent = some .depart := by
  obtain ⟨q, hq⟩ := Option.ne_none_iff_exists'.1 hdepart
  unfold CarrierLink.nextUrgent
  cases hshed : l.shed with
  | none => rw [hq]
  | some r =>
    have hfirst := h.resolve_left (by simp [hshed])
    simp [hq, hfirst]

theorem CarrierLink.select_of_empty {l : CarrierLink} (now : Nat) (hurgent : l.nextUrgent = none) (hperiodic : l.periodic = none) :
    l.select now = { l with transmitter := .idle } := by
  rw [CarrierLink.select, hurgent, hperiodic]

theorem CarrierLink.select_of_periodic {l : CarrierLink} (now : Nat) (hurgent : l.nextUrgent = none)
    (hperiodic : l.periodic ≠ none) :
    l.select now = { l with
      lfsr := lfsrDraw l.lfsr
      transmitter := .waiting .periodic (now + 1000 * ((lfsrDraw l.lfsr).toNat % 8)) } := by
  obtain ⟨q, hq⟩ := Option.ne_none_iff_exists'.1 hperiodic
  rw [CarrierLink.select, hurgent, hq]
  rfl

/-- A selection never sends: the transmitter waits or is idle. -/
theorem CarrierLink.select_ne_sending (l : CarrierLink) (now : Nat) (f : Frame) (since : Nat) :
    (l.select now).transmitter ≠ .sending f since := by
  unfold CarrierLink.select
  (repeat' split) <;> simp

/-! ### Placing (R110, R111) -/

theorem CarrierLink.place_of_full {l : CarrierLink} {k : Slot} {q : Queued} (f : Frame) (now : Nat) (h : l.slot k = some q) :
    l.place k f now = l.setSlot k (some { frame := f, attempts := q.attempts }) := by
  rw [CarrierLink.place, h]

/-- An empty slot filled, its place in the queueing order noted. -/
def CarrierLink.filled (l : CarrierLink) (k : Slot) (f : Frame) : CarrierLink :=
  { l.setSlot k (some { frame := f, attempts := 0 }) with
    departFirst := match k with
      | .periodic => l.departFirst
      | .shed => l.depart.isSome
      | .depart => l.shed.isNone }

theorem CarrierLink.place_of_empty {l : CarrierLink} {k : Slot} (f : Frame) (now : Nat) (h : l.slot k = none) :
    l.place k f now = (l.filled k f).afterFill k now := by
  have hfilled : (l.noteOrder k).setSlot k (some { frame := f, attempts := 0 }) = l.filled k f := by
    cases k with
    | periodic => rfl
    | shed => rfl
    | depart => simp [CarrierLink.noteOrder, CarrierLink.setSlot, CarrierLink.filled]
  rw [CarrierLink.place, h, ← hfilled]

/-- An idle transmitter selects at once, and an urgent frame goes before a wait on the periodic one (R111). -/
def CarrierLink.selects (l : CarrierLink) (k : Slot) : Prop :=
  l.transmitter = .idle ∨ k ≠ .periodic ∧ ∃ due, l.transmitter = .waiting .periodic due

theorem CarrierLink.afterFill_of_selects {l : CarrierLink} {k : Slot} (now : Nat) (h : l.selects k) :
    l.afterFill k now = l.select now := by
  rcases h with h | ⟨hk, due, h⟩
  · rw [CarrierLink.afterFill, h]
  · rw [CarrierLink.afterFill, h]
    cases k with
    | periodic => exact absurd rfl hk
    | shed => rfl
    | depart => rfl

theorem CarrierLink.afterFill_of_waits {l : CarrierLink} {k : Slot} (now : Nat) (h : ¬ l.selects k) : l.afterFill k now = l := by
  unfold CarrierLink.afterFill
  cases htransmitter : l.transmitter with
  | idle => exact absurd (.inl htransmitter) h
  | sending f since => rfl
  | waiting j due =>
    cases j with
    | shed => rfl
    | depart => rfl
    | periodic =>
      cases k with
      | periodic => rfl
      | shed => exact absurd (.inr ⟨by simp, due, htransmitter⟩) h
      | depart => exact absurd (.inr ⟨by simp, due, htransmitter⟩) h

/-- The selection is told by the transmitter, which filling a slot leaves. -/
theorem CarrierLink.selects_filled (l : CarrierLink) (k : Slot) (f : Frame) : (l.filled k f).selects k ↔ l.selects k := by
  cases k <;> rfl

/-! ### A frame due (R113, R114) -/

section Due

variable {t due : Nat} {k : Slot} {q : Queued} {s : State} (hready : s.startup = .ready)
  (hwaits : s.link.transmitter = .waiting k due) (hdue : due ≤ max s.clock t) (hslot : s.link.slot k = some q)

include hready hwaits hdue hslot

theorem exec_frameDue (carrier : Bool) : exec (.frameDue t carrier) s = .next (if carrier
    then State.deferFrame { s with clock := max s.clock t } k q
    else State.startSending { s with clock := max s.clock t } k q) := by
  change execFrameDue t carrier s = _
  rw [execFrameDue, State.takenAt_of_ready t s hready]
  simp only [hwaits]
  refine congrArg Host.Outcome.next ((if_pos hdue).trans ?_)
  simp only [hslot]

end Due

theorem Slot.attemptLimit_eq (k : Slot) :
    k.attemptLimit = match k with | .periodic => 12 | .shed => 32 | .depart => 32 := by
  cases k <;> rfl

theorem State.deferFrame_of_few {s : State} {k : Slot} {q : Queued} (h : q.attempts + 1 < k.attemptLimit) :
    s.deferFrame k q = { s with link := { s.link.setSlot k (some { q with attempts := q.attempts + 1 }) with
      lfsr := lfsrDraw s.link.lfsr
      transmitter := .waiting k (s.clock + 1000 * ((lfsrDraw s.link.lfsr).toNat % 16 + 1)) } } :=
  if_neg (Nat.not_le.2 h)

/-- R113: at its limit the frame is dropped, with TX_GIVEUP for an urgent one. -/
theorem State.deferFrame_of_limit {s : State} {k : Slot} {q : Queued} (h : k.attemptLimit ≤ q.attempts + 1) :
    s.deferFrame k q = { s with
      link := (s.link.setSlot k none).select s.clock
      port := if k = .periodic then s.port else s.port.raise .txGiveup } := by
  refine (if_pos h).trans ?_
  cases k <;> rfl

theorem CarrierLink.slot_setSlot_none (l : CarrierLink) (k : Slot) (tx : Transmitter) (a : Assembler) :
    CarrierLink.slot { l.setSlot k none with transmitter := tx, assembler := a } k = none := by
  cases k <;> rfl

/-! ### The end of a transmission (R102, R114) -/

/-- The lengths of R103. -/
theorem length_payloadBytes (p : Payload) :
    (payloadBytes p).length = match p with | .demand _ => 13 | .supply _ => 10 | .shed _ => 3 | .depart => 0 := by
  cases p <;> simp [payloadBytes, demandBytes, supplyBytes, shedBytes, halfBytes]

/-- The line times of R102. -/
theorem Frame.lineTime_eq (f : Frame) :
    f.lineTime = match f.payload with | .demand _ => 5208 | .supply _ => 4427 | .shed _ => 2604 | .depart => 1823 := by
  have hlength : f.bytes.length = 7 + (payloadBytes f.payload).length := f.length_received f.crc
  rw [Frame.lineTime, hlength, length_payloadBytes]
  cases f.payload <;> simp

theorem stillArriving_eq (clock : Nat) : stillArriving clock = clock - 259 := by
  unfold stillArriving characterTime
  omega

theorem exec_transmissionEnd {t since : Nat} {f : Frame} {s : State} (hready : s.startup = .ready)
    (hsends : s.link.transmitter = .sending f since) :
    exec (.transmissionEnd t) s = .next (if since + f.lineTime ≤ max s.clock t then
        { s with
          clock := max s.clock t
          link := { s.link.select (max s.clock t) with listenFrom := max s.clock t - 259 } }
      else { s with clock := max s.clock t }) := by
  change execTransmissionEnd t s = _
  rw [execTransmissionEnd, State.takenAt_of_ready t s hready]
  simp only [hsends, stillArriving_eq]
  rfl

theorem State.mtxen_of_select (s : State) (l : CarrierLink) (now from_ : Nat)
    (h : s.link = { l.select now with listenFrom := from_ }) : s.mtxen = false := by
  have htransmitter : s.link.transmitter = (l.select now).transmitter := by rw [h]
  unfold State.mtxen
  cases hnext : s.link.transmitter with
  | idle => rfl
  | waiting k due => rfl
  | sending f since => exact absurd (htransmitter.symm.trans hnext) (l.select_ne_sending now f since)

/-- Settles O49, clause by clause. -/
theorem framesAreSentDeferredAndSelected : Obligations.FramesAreSentDeferredAndSelected := by
  refine ⟨fun t due k q s hready hwaits hdue hslot => ?_, fun t since f s hready hsends => ?_, fun l k f now => ⟨fun q hfull => ?_,
    fun hempty => ?_, fun q => ⟨rfl, rfl, rfl, rfl, rfl, rfl⟩⟩, fun l now => ⟨fun hshed hdepart hperiodic => ?_,
    fun hshed h => ?_, fun hdepart h => ?_, fun hshed hdepart hperiodic => ?_⟩⟩
  · intro limit r
    have hlimit : k.attemptLimit = limit := k.attemptLimit_eq
    refine ⟨⟨_, exec_frameDue hready hwaits hdue hslot false, rfl, CarrierLink.slot_setSlot_none _ k _ _, rfl⟩, fun hfew => ?_,
      fun hmany => ?_⟩
    · rw [exec_frameDue hready hwaits hdue hslot, if_pos rfl, State.deferFrame_of_few (hlimit ▸ hfew)]
    · rw [exec_frameDue hready hwaits hdue hslot, if_pos rfl, State.deferFrame_of_limit (hlimit ▸ hmany)]
  · intro time
    have htime : f.lineTime = time := f.lineTime_eq
    rw [exec_transmissionEnd hready hsends, htime]
    exact ⟨fun hend => ⟨_, congrArg Host.Outcome.next (if_pos hend), State.mtxen_of_select _ s.link _ _ rfl, rfl⟩,
      fun hearly => congrArg Host.Outcome.next (if_neg (Nat.not_le.2 hearly))⟩
  · exact CarrierLink.place_of_full f now hfull
  · intro filled selects
    have hselects := l.selects_filled k f
    rw [CarrierLink.place_of_empty f now hempty]
    exact ⟨fun h => CarrierLink.afterFill_of_selects now (hselects.2 h), fun h => CarrierLink.afterFill_of_waits now (mt hselects.1 h)⟩
  · exact CarrierLink.select_of_empty now (CarrierLink.nextUrgent_of_none hshed hdepart) hperiodic
  · exact CarrierLink.select_of_urgent now (CarrierLink.nextUrgent_of_shed hshed h)
  · exact CarrierLink.select_of_urgent now (CarrierLink.nextUrgent_of_depart hdepart h)
  · exact CarrierLink.select_of_periodic now (CarrierLink.nextUrgent_of_none hshed hdepart) hperiodic

end Sys2Proof.Machine

/-! ## Commands not taken, and the warm reset -/

namespace Sys2Proof.Machine

/-! ### Commands not taken (R171, R181) -/

/-- Whatever a transaction is taken as is a command of the port, at the transaction's moment. -/
theorem exec_of_decode {t : Nat} {e : Bool} {bytes : List Byte} {c : Instr} (h : decodeTransaction t e bytes = some c) :
    ∃ body : State → State, ∀ s, exec c s = .next (onPort t s body) := by
  have hform : c.wellFormed = true := (transactionBytes_of_decode h).2
  cases bytes with
  | nil => simp [decodeTransaction] at h
  | cons code params =>
    unfold decodeTransaction at h
    dsimp only at h
    split at h
    case h_21 =>
      obtain ⟨rfl, rfl⟩ := takes0_eq_some.1 h
      exact ⟨_, fun s => if_pos hform⟩
    case h_3 | h_4 =>
      obtain ⟨m, rfl, rfl⟩ := takes4_eq_some.1 h
      exact ⟨_, fun s => rfl⟩
    case h_5 =>
      obtain ⟨d, b, rfl, rfl⟩ := takes3_eq_some.1 h
      exact ⟨_, fun s => rfl⟩
    case h_6 =>
      obtain ⟨d, rfl, rfl⟩ := takes2_eq_some.1 h
      exact ⟨_, fun s => rfl⟩
    case h_13 | h_16 =>
      obtain ⟨b, rfl, rfl⟩ := takes1_eq_some.1 h
      exact ⟨_, fun s => rfl⟩
    all_goals
      obtain ⟨rfl, rfl⟩ := takes0_eq_some.1 h
      exact ⟨_, fun s => rfl⟩

theorem exec_unknownCommand {t : Nat} {code : Byte} {s : State} (hcode : paramCount code = none) (hready : s.startup = .ready) :
    exec (.unknownCommand t code) s = .next { s with clock := max s.clock t, port := { s.port with response := [0x02] } } := by
  change execUnknownCommand t code s = _
  rw [execUnknownCommand, if_pos (by simp [hcode]), onPort_of_ready t s _ hready, State.takenAt_of_ready t s hready]
  rfl

/-- R171: MISO's bytes before, in and past the response. -/
theorem State.misoByte_cases (s : State) (early n : Nat) :
    (n < early → s.misoByte early n = 0xFF) ∧
      (∀ b, early ≤ n → s.port.response[n - early]? = some b → s.misoByte early n = b) ∧
      (early ≤ n → s.port.response.length ≤ n - early → s.misoByte early n = 0x00) := by
  refine ⟨fun h => if_pos h, fun b h hb => ?_, fun h hpast => ?_⟩
  · rw [State.misoByte, if_neg (Nat.not_lt.2 h), List.getD_eq_getElem?_getD, hb, Option.getD_some]
  · rw [State.misoByte, if_neg (Nat.not_lt.2 h), List.getD_eq_default _ _ hpast]

theorem State.not_isReady {s : State} (h : s.startup ≠ .ready) : s.isReady ≠ true := by
  simpa [State.isReady] using h

/-- Settles O58, clause by clause. -/
theorem commandsNotTakenChangeNothing : Obligations.CommandsNotTakenChangeNothing := by
  refine ⟨fun t e bytes c s hdecode hstarting => ?_, fun t code s hcode hready => exec_unknownCommand hcode hready,
    fun t bytes s => rfl, State.misoByte_cases, fun t s hnot => ?_⟩
  · obtain ⟨body, hbody⟩ := exec_of_decode hdecode
    rw [hbody, onPort_of_starting t s body hstarting]
    rfl
  · have hnot' : (s.takenAt t).isReady ≠ true := State.not_isReady hnot
    exact ⟨congrArg Host.Outcome.next (if_neg hnot'), congrArg Host.Outcome.next (if_neg hnot'),
      congrArg Host.Outcome.next (if_neg fun hboth => hnot' (Bool.and_eq_true_iff.1 hboth).1)⟩

/-! ### Warm reset (R75, R118, R137, R150, R182, R183) -/

/-- The pantograph after a warm reset in whatever state: no history and no episode (R137). -/
def Pantograph.rested (p : Pantograph) : Pantograph := { p with history := [], imbalanceEpisode := false }

theorem State.warmResetPantograph_of_contact {s : State} (h : s.panto.state = .contact) :
    s.warmResetPantograph = { s with panto := Pantograph.rested { s.panto.enter .unloading with
      unloadTimer := some (s.clock + 1000 * s.config.unloadTimeout) } } := by
  rw [State.warmResetPantograph, h]
  rfl

theorem State.warmResetPantograph_of_raising {s : State} (h : s.panto.state = .raising) :
    s.warmResetPantograph = { s with panto := Pantograph.rested { s.panto.enter .lowering with
      lowerTimer := some (s.clock + 1000 * s.config.lowerTimeout) } } := by
  rw [State.warmResetPantograph, h]
  rfl

theorem State.warmResetPantograph_of_unloading {s : State} (h : s.panto.state = .unloading) :
    s.warmResetPantograph = { s with panto := Pantograph.rested { s.panto with lossTimer := none } } := by
  rw [State.warmResetPantograph, h]
  rfl

theorem State.warmResetPantograph_of_other {s : State}
    (h : s.panto.state = .lowering ∨ s.panto.state = .lowered ∨ s.panto.state = .faulted) :
    s.warmResetPantograph = { s with panto := s.panto.rested } := by
  unfold State.warmResetPantograph
  rcases h with h | h | h <;> rw [h] <;> rfl

/-- The state a warm reset finds: the clock at its moment, the port as the command leaves it. -/
def State.resetting (s : State) (t : Nat) (q : TruckPort) : State := { s with clock := max s.clock t, port := q }

/-- What the pantograph meets of a warm reset, the Limit Generator and the Share Engine reset before it. -/
theorem State.warmReset_panto (s : State) : s.warmReset.panto = s.warmResetLimit.warmResetShare.warmResetPantograph.panto := rfl

theorem State.warmReset_lim (s : State) : s.warmReset.lim = s.warmResetLimit.lim := by
  simp [State.warmReset, State.warmResetShare]

/-- R118: a frame on the line is sent whole, and a wait is abandoned. -/
theorem CarrierLink.warmReset_transmitter_of_sending {l : CarrierLink} {f : Frame} {since : Nat}
    (h : l.transmitter = .sending f since) : l.warmReset.transmitter = l.transmitter := by
  simp only [CarrierLink.warmReset, h]

theorem CarrierLink.warmReset_transmitter_of_not_sending {l : CarrierLink} (h : ∀ f since, l.transmitter ≠ .sending f since) :
    l.warmReset.transmitter = .idle := by
  unfold CarrierLink.warmReset
  cases htransmitter : l.transmitter with
  | idle => rfl
  | waiting k due => rfl
  | sending f since => exact absurd htransmitter (h f since)

/-- A warm reset, block by block. -/
theorem State.warmReset_frame (s : State) : s.warmReset = { s with
    share := { ShareEngine.powerOn with cycleTimer := some (s.clock + 1000 * (10 * s.config.period)) }
    lim := s.warmReset.lim
    panto := s.warmReset.panto
    link := s.link.warmReset
    sweeper := s.sweeper.warmReset s.clock
    port := { s.port with flags := 0, fresh := 0 }
    peers := []
    holds := []
    arc := { ArcMonitor.powerOn with resetAt := some s.clock }
    feeder := .powerOn } := by
  apply State.eq_of_fields <;> simp [State.warmReset, State.warmResetShare, State.afterMs]

theorem exec_warmReset {t : Nat} {s : State} (hready : s.startup = .ready) : exec (.warmReset t) s = .next { s with
    clock := max s.clock t, port := { s.port with response := [0x00], warmResetRequested := true } } := by
  change execWarmReset t s = _
  rw [execWarmReset, onPort_of_ready t s _ hready, State.takenAt_of_ready t s hready]
  rfl

theorem exec_warmResetTaken_of_none {t : Nat} {s : State} (hready : s.startup = .ready) (h : s.port.warmResetRequested = false) :
    exec (.warmResetTaken t) s = .next { s with clock := max s.clock t } := by
  change execWarmResetTaken t s = _
  rw [execWarmResetTaken, State.takenAt_of_ready t s hready]
  exact congrArg Host.Outcome.next (if_neg (by simp [h]))

theorem exec_warmResetTaken_of_requested {t : Nat} {s : State} (hready : s.startup = .ready)
    (h : s.port.warmResetRequested = true) : exec (.warmResetTaken t) s =
      .next (s.resetting t { s.port with response := [], warmResetRequested := false }).warmReset := by
  change execWarmResetTaken t s = _
  rw [execWarmResetTaken, State.takenAt_of_ready t s hready]
  exact congrArg Host.Outcome.next (if_pos (by simp [State.isReady, hready, h]))

theorem exec_warmNFall {t : Nat} {s : State} (hready : s.startup = .ready) :
    exec (.warmNFall t) s = .next (s.resetting t s.port).warmReset := by
  change execWarmNFall t s = _
  rw [execWarmNFall, State.takenAt_of_ready t s hready]
  exact congrArg Host.Outcome.next (if_pos (by simp [State.isReady, hready]))

/-- Settles O60: the two commands of the reset differ in the port alone. -/
theorem warmResetKeepsAndClears : Obligations.WarmResetKeepsAndClears := by
  intro t i s hready
  refine ⟨exec_warmReset hready, exec_warmResetTaken_of_none hready, fun hi => ?_⟩
  intro now strobes rested
  obtain ⟨q, hexec, hfall, htaken⟩ : ∃ q, exec i s = .next (s.resetting t q).warmReset ∧
      (i = .warmNFall t → q = s.port) ∧
      (i = .warmResetTaken t → q = { s.port with response := [], warmResetRequested := false }) := by
    rcases hi with rfl | ⟨rfl, hrequested⟩
    · exact ⟨_, exec_warmNFall hready, fun _ => rfl, nofun⟩
    · exact ⟨_, exec_warmResetTaken_of_requested hready hrequested, nofun, fun _ => rfl⟩
  have hframe := (s.resetting t q).warmReset_frame
  have hstrobes : (decide (0 < s.lim.periodValue) && s.config.strobeMode != .off) = true ↔ strobes := by simp [strobes]
  have hlink : (s.resetting t q).warmReset.link = s.link.warmReset := by
    rw [hframe]
    rfl
  have hport : (s.resetting t q).warmReset.port = { q with flags := 0, fresh := 0 } := by
    rw [hframe]
    rfl
  have hshare : (s.resetting t q).warmReset.share =
      { ShareEngine.powerOn with cycleTimer := some (now + 10000 * s.config.period) } := by
    rw [hframe, show 10000 * s.config.period = 1000 * (10 * s.config.period) by omega]
    rfl
  refine ⟨_, hexec, hshare, ?_, fun h => ?_, fun h => ?_, fun hstate => ?_, fun hstate => ?_, fun hstate => ?_,
    fun hstate => ?_, ?_, fun f since hsends => ?_, fun hsilent => ?_, ?_, fun h => ?_, fun h => ?_, ?_⟩
  · rw [State.warmReset_lim]
    rfl
  · rw [State.warmReset_lim]
    exact ⟨hstrobes.2 h, if_pos (hstrobes.2 h)⟩
  · rw [State.warmReset_lim]
    exact Bool.eq_false_iff.2 (mt hstrobes.1 h)
  · exact congrArg State.panto
      (State.warmResetPantograph_of_contact (s := (s.resetting t q).warmResetLimit.warmResetShare) hstate)
  · exact congrArg State.panto
      (State.warmResetPantograph_of_raising (s := (s.resetting t q).warmResetLimit.warmResetShare) hstate)
  · exact congrArg State.panto
      (State.warmResetPantograph_of_unloading (s := (s.resetting t q).warmResetLimit.warmResetShare) hstate)
  · exact congrArg State.panto
      (State.warmResetPantograph_of_other (s := (s.resetting t q).warmResetLimit.warmResetShare) hstate)
  · rw [hlink]
    rfl
  · rw [hlink]
    exact CarrierLink.warmReset_transmitter_of_sending hsends
  · rw [hlink]
    exact CarrierLink.warmReset_transmitter_of_not_sending hsilent
  · rw [hframe]
    rfl
  · rw [hport, hfall h]
  · rw [hport, htaken h]
  · apply State.eq_of_fields <;>
      simp [State.warmReset, State.warmResetShare, State.resetting, ArcMonitor.powerOn, FeederLogic.powerOn, now]

end Sys2Proof.Machine

/-! ## What the port's reads answer -/

namespace Sys2Proof.Machine

/-! ### Values as bytes (section 12.2) -/

theorem ofNat_byte_congr {a b : Nat} (h : a % 256 = b % 256) : BitVec.ofNat 8 a = BitVec.ofNat 8 b :=
  BitVec.eq_of_toNat_eq (by simpa using h)

theorem bytes2_eq (n : Nat) : bytes2 n = [BitVec.ofNat 8 (n / 256), BitVec.ofNat 8 (n % 256)] := by
  rw [bytes2, ofNat_byte_congr (Nat.mod_mod n 256).symm]

theorem bytes2_mod (n : Nat) : bytes2 (n % 65536) = bytes2 n := by
  rw [bytes2, bytes2, ofNat_byte_congr (a := n % 65536 / 256) (b := n / 256) (by omega),
    ofNat_byte_congr (a := n % 65536) (b := n) (by omega)]

theorem bytes2_toNat (h : Half) : bytes2 h.toNat = halfBytes h := by
  have hlt := h.isLt
  have hhigh : BitVec.ofNat 8 (h.toNat / 256) = h.extractLsb' 8 8 := BitVec.eq_of_toNat_eq (by
    simp [BitVec.extractLsb'_toNat, Nat.shiftRight_eq_div_pow])
  have hlow : BitVec.ofNat 8 h.toNat = h.extractLsb' 0 8 := BitVec.eq_of_toNat_eq (by simp [BitVec.extractLsb'_toNat])
  rw [bytes2, halfBytes, hhigh, hlow]

/-! ### Codes (R62, R89, R120, R172, R181) -/

theorem byte1_pantoCode (p : PantoState) : byte1 p.code = match p with
    | .lowered => 0 | .raising => 1 | .contact => 2 | .unloading => 3 | .lowering => 4 | .faulted => 5 := by
  cases p <;> rfl

theorem byte1_phaseCode (p : Phase) : byte1 p.code = match p with
    | .offline => 0 | .listen => 1 | .active => 2 | .crossing => 3 := by
  cases p <;> rfl

theorem byte1_modeCode (m : Mode) : byte1 m.code = match m with
    | .none => 0 | .sharing => 1 | .held => 2 | .degraded => 3 | .silent => 4 := by
  cases m <;> rfl

theorem byte1_crossSubCode (c : CrossSub) : byte1 c.code = match c with
    | .none => 0 | .drain => 1 | .gap => 2 | .dead => 3 := by
  cases c <;> rfl

theorem loadCode_eq (r : LoadResult) : loadCode r = match r with
    | .accepted => 0 | .acceptedClamped => 1 | .notRead => 2 | .badVersion => 3 | .badCrc => 4 := by
  cases r <;> rfl

theorem strobeCode_eq (m : StrobeMode) : strobeCode m = match m with | .off => 0 | .onChange => 1 | .everyApplication => 2 := by
  cases m <;> rfl

theorem bitOf_role (r : Role) : bitOf (r == .feeder) = if r = .feeder then 1 else 0 := by
  cases r <;> rfl

/-! ### Places of a list (R88, R161, R174) -/

theorem holdPosition_of_some {now : Reading} {holds : List Hold} {k : Nat} {h : Hold} (hk : holds[k]? = some h)
    (hnear : (h.expiry - now).toNat ≤ 5000) : holdPosition now holds k =
      halfBytes h.origin ++ [if h.reason = 1 ∨ h.reason = 2 then h.reason else 0] ++ bytes2 (h.expiry - now).toNat := by
  simp only [holdPosition, hk, Hold.remaining_of_le hnear, bytes2_toNat, Hold.reportedReason]

theorem holdPosition_of_none {now : Reading} {holds : List Hold} {k : Nat} (hk : holds[k]? = none) :
    holdPosition now holds k = [0, 0, 0, 0, 0] := by
  rw [holdPosition, hk]
  rfl

/-- The four places of READ HOLDS. -/
def holdPlaces (now : Reading) (holds : List Hold) : List (List Byte) := (List.range 4).map (holdPosition now holds)

theorem getElem?_holdPlaces {now : Reading} {holds : List Hold} {k : Nat} (hk : k < 4) :
    (holdPlaces now holds)[k]? = some (holdPosition now holds k) := by
  rw [holdPlaces, List.getElem?_map, List.getElem?_range hk, Option.map_some]

theorem Peer.data_of_truck {p : Peer} {d : TruckPart} (now : Reading) (h : p.part = .truck d) : p.data now =
    halfBytes p.address ++ [1, byte1 p.period] ++ bytes2 (p.age now) ++ [if p.isFresh now then 1 else 2]
      ++ [byte1 d.sharingMode, byte1 d.weight] ++ bytes2 d.effectiveDemand ++ bytes2 d.floor ++ bytes2 d.allocation
      ++ bytes2 d.measured ++ bytes2 d.voltage ++ List.replicate 9 0 := by
  simp [Peer.data, Peer.roleByte, Peer.isTruck, h, bytes2_toNat]

theorem Peer.data_of_feeder {p : Peer} {d : FeederPart} (now : Reading) (h : p.part = .feeder d) : p.data now =
    halfBytes p.address ++ [2, byte1 p.period] ++ bytes2 (p.age now) ++ [if p.isFresh now then 1 else 2]
      ++ List.replicate 12 0 ++ bytes2 d.capacity ++ bytes2 d.feederCurrent ++ bytes2 d.unaccounted ++ bytes2 d.voltage
      ++ [d.flags] := by
  simp [Peer.data, Peer.roleByte, Peer.isTruck, h, bytes2_toNat]

/-! ### The reads -/

/-- A port command at ready that changes nothing but the response. -/
def State.reported (s : State) (t : Nat) (response : List Byte) : State :=
  { s with clock := max s.clock t, port := { s.port with response := response } }

section Reads

variable {t : Nat} {s : State} (hready : s.startup = .ready)

include hready

theorem exec_of_port {i : Instr} {body : State → State} (h : exec i s = .next (onPort t s body)) :
    exec i s = .next (body { s with clock := max s.clock t }) := by
  rw [h, onPort_of_ready t s _ hready, State.takenAt_of_ready t s hready]

omit hready in
theorem exec_reported {i : Instr} {r response : List Byte} (hexec : exec i s = .next (s.reported t r)) (h : r = response) :
    exec i s = .next (s.reported t response) := h ▸ hexec

theorem exec_readStatus : exec (.readStatus t) s = .next (s.reported t
    (([0x00, byte1 s.panto.state.code, byte1 s.share.phase.code, byte1 s.mode.code, byte1 s.share.crossSub.code] : List Byte)
      ++ bytes2 s.lim.limit ++ bytes2 s.lim.lastTarget
      ++ [byte1 (bitOf s.arc.storm), byte1 s.holds.length, byte1 (bitOf s.alerting)])) :=
  exec_of_port (i := .readStatus t) hready rfl

theorem exec_readConfig : exec (.readConfig t) s = .next (s.reported t (0x00 :: configBytes s.config)) :=
  exec_of_port (i := .readConfig t) hready rfl

theorem exec_readIdentity : exec (.readIdentity t) s = .next (s.reported t
    (([0x00, 0x7A, 0x48, 0x01, loadCode s.loadResult] : List Byte) ++ halfBytes s.sweeper.selfCheckWord)) :=
  exec_of_port (i := .readIdentity t) hready rfl

theorem exec_readPeer_of_past {index : Byte} (h : 12 ≤ index.toNat) :
    exec (.readPeer t index) s = .next (State.answer { s with clock := max s.clock t } .badParameter []) :=
  (exec_of_port (i := .readPeer t index) hready rfl).trans (congrArg Host.Outcome.next (if_pos h))

theorem exec_readPeer {index : Byte} (h : index.toNat < 12) : exec (.readPeer t index) s = .next (s.reported t
    (0x00 :: (s.peers[index.toNat]?.map (·.data (State.now { s with clock := max s.clock t }))).getD (List.replicate 28 0))) := by
  refine (exec_of_port (i := .readPeer t index) hready rfl).trans (congrArg Host.Outcome.next ((if_neg (Nat.not_le.2 h)).trans ?_))
  dsimp only
  cases s.peers[index.toNat]? <;> rfl

theorem exec_readArc_of_past {index : Byte} (h : 16 ≤ index.toNat) :
    exec (.readArc t index) s = .next (State.answer { s with clock := max s.clock t } .badParameter []) :=
  (exec_of_port (i := .readArc t index) hready rfl).trans (congrArg Host.Outcome.next (if_pos h))

theorem exec_readArc {index : Byte} (h : index.toNat < 16) : exec (.readArc t index) s = .next (s.reported t
    (0x00 :: (s.arc.log.reverse[index.toNat]?.map ArcRecord.data).getD (List.replicate 11 0))) := by
  refine (exec_of_port (i := .readArc t index) hready rfl).trans (congrArg Host.Outcome.next ((if_neg (Nat.not_le.2 h)).trans ?_))
  dsimp only
  cases s.arc.log.reverse[index.toNat]? <;> rfl

end Reads

/-- Settles O56, command by command. -/
theorem portReadsReportWhatStands : Obligations.PortReadsReportWhatStands := by
  intro t s hready now one two bit answers r m c strobe
  have hnow : now = State.now { s with clock := max s.clock t } := congrArg State.now (State.takenAt_of_ready t s hready)
  have htwo : two = bytes2 := funext fun n => (bytes2_eq n).symm
  clear_value two now
  subst htwo hnow
  refine ⟨?_, ?_, fun hlength hnear => ⟨holdPlaces (State.now { s with clock := max s.clock t }) s.holds, rfl,
    fun k h hk => ?_, fun k hpast hk => ?_, ?_⟩, ?_, ?_, ?_, fun index => ⟨fun hpast => ?_, fun hlt hempty => ?_, fun hlt p hp => ?_,
      fun hpast => ?_, fun hlt hempty => ?_, fun hlt a ha => ?_⟩⟩
  · have halert : bitOf s.alerting = bit (!s.alertN) := by
      rw [State.alertN, Bool.not_not]
      rfl
    refine exec_reported (exec_readStatus hready) ?_
    rw [byte1_pantoCode, byte1_phaseCode, byte1_modeCode, byte1_crossSubCode, halert]
    rfl
  · exact exec_of_port (i := .readBudget t) hready rfl
  · have hlt : k < s.holds.length := (List.getElem?_eq_some_iff.1 hk).1
    rw [getElem?_holdPlaces (by omega), holdPosition_of_some hk (hnear h (List.mem_of_getElem? hk))]
  · rw [getElem?_holdPlaces hk, holdPosition_of_none (List.getElem?_eq_none hpast)]
  · exact exec_of_port (i := .readHolds t) hready rfl
  · exact exec_of_port (i := .readMeasurements t) hready rfl
  · have hflags : bitOf (c.role == .feeder) + 2 * strobeCode c.strobeMode + 8 * c.stormThreshold =
        (if c.role = .feeder then 1 else 0) + 2 * strobe + 8 * c.stormThreshold := by
      have hstrobe : strobeCode c.strobeMode = strobe := strobeCode_eq c.strobeMode
      rw [bitOf_role, hstrobe]
    refine exec_reported (exec_readConfig hready) ?_
    rw [configBytes, hflags]
    simp only [List.append_assoc, List.cons_append, List.nil_append]
    rfl
  · exact exec_reported (exec_readIdentity hready)
      (congrArg (fun code : Byte => [0x00, 0x7A, 0x48, 0x01, code] ++ halfBytes m.selfCheckWord) (loadCode_eq s.loadResult))
  · exact exec_readPeer_of_past hready hpast
  · refine exec_reported (exec_readPeer hready hlt) ?_
    rw [List.getElem?_eq_none hempty]
    rfl
  · intro fresh
    refine ⟨fun d hd => exec_reported (exec_readPeer hready hlt) ?_, fun d hd => exec_reported (exec_readPeer hready hlt) ?_⟩
    · rw [hp, Option.map_some, Option.getD_some, Peer.data_of_truck _ hd]
      rfl
    · rw [hp, Option.map_some, Option.getD_some, Peer.data_of_feeder _ hd]
      rfl
  · exact exec_readArc_of_past hready hpast
  · refine exec_reported (exec_readArc hready hlt) ?_
    rw [List.getElem?_eq_none (by simpa using hempty)]
    rfl
  · refine exec_reported (exec_readArc hready hlt) ?_
    rw [ha, bytes2_mod]
    rfl

end Sys2Proof.Machine

/-! ## Start-up, stage by stage -/

namespace Sys2Proof.Machine

/-! ### The configuration load (R179) -/

theorem loadOutcome_none : loadOutcome none = (.notRead, defaultConfiguration) := rfl

theorem loadOutcome_of_version {v : Vector Byte 64} (h : v.toList.getD 0 0 ≠ 0x01) :
    loadOutcome (some v) = (.badVersion, defaultConfiguration) :=
  if_pos (bne_iff_ne.2 fun heq => h (BitVec.eq_of_toNat_eq heq))

theorem blockByte_zero_of_version {b : List Byte} (h : b.getD 0 0 = 0x01) : ¬ (blockByte b 0 != 1) = true :=
  fun hne => bne_iff_ne.1 hne (congrArg BitVec.toNat h)

theorem loadOutcome_of_badCrc {v : Vector Byte 64} (hversion : v.toList.getD 0 0 = 0x01)
    (hcrc : (crc16 (v.toList.take 62)).toNat ≠ blockWord v.toList 62) :
    loadOutcome (some v) = (.badCrc, defaultConfiguration) :=
  (if_neg (blockByte_zero_of_version hversion)).trans (if_pos (bne_iff_ne.2 hcrc))

theorem loadOutcome_of_goodCrc {v : Vector Byte 64} (hversion : v.toList.getD 0 0 = 0x01)
    (hcrc : (crc16 (v.toList.take 62)).toNat = blockWord v.toList 62) :
    loadOutcome (some v) = (if blockAdjusted v.toList then .acceptedClamped else .accepted, acceptedConfiguration v.toList) :=
  (if_neg (blockByte_zero_of_version hversion)).trans (if_neg (by simp [hcrc]))

/-- A rejected load leaves the defaults (R179). -/
theorem loadOutcome_rejected (block : Option (Vector Byte 64)) (h : loadRejected (loadOutcome block).1 = true) :
    (loadOutcome block).2 = defaultConfiguration := by
  unfold loadOutcome at h ⊢
  dsimp only at h ⊢
  cases block with
  | none => rfl
  | some v =>
    dsimp only at h ⊢
    split
    · rfl
    · next hversion =>
      rw [if_neg hversion] at h
      split
      · rfl
      · next hcrc =>
        rw [if_neg hcrc] at h
        dsimp only at h
        split at h <;> cases h

/-- The state after the load (R112, R148, R179, R181). -/
def State.loaded (s : State) (block : Option (Vector Byte 64)) : State :=
  { s with
    startup := .selfCheck
    clock := 0
    config := (loadOutcome block).2
    loadResult := (loadOutcome block).1
    link := { s.link with lfsr := (loadOutcome block).2.address, listenFrom := 0 }
    sweeper := { s.sweeper with conversion := .selfCheck 0 }
    port := if loadRejected (loadOutcome block).1 then s.port.raise .configDefault else s.port }

theorem exec_configurationLoadEnd {block : Option (Vector Byte 64)} {s : State} (h : s.startup = .loading) :
    exec (.configurationLoadEnd block) s = .next (s.loaded block) := by
  change execConfigurationLoadEnd block s = _
  rw [execConfigurationLoadEnd]
  refine congrArg Host.Outcome.next ((if_pos (by simp [h])).trans ?_)
  cases hrejected : loadRejected (loadOutcome block).1 <;> simp [State.loaded, State.raiseIf, State.raise, hrejected]

/-! ### The self-check's findings (R143, R148, R149) -/

/-- The flags of the first `k` channels' tests. -/
theorem getLsbD_foldl_setFlag (value : Nat → Bool) (k n : Nat) (hk : k ≤ 8) :
    ((List.range k).foldl (fun flags m => setFlag flags m (value m)) (0 : BitVec 8)).getLsbD n =
      if n < k then value n else false := by
  induction k with
  | zero => simp
  | succ k ih =>
    rw [List.range_succ, List.foldl_append, List.foldl_cons, List.foldl_nil,
      getLsbD_setFlag _ ⟨k, by omega⟩, ih (by omega)]
    by_cases hlast : n = k
    · rw [if_pos hlast, if_pos (by omega), hlast]
    · rw [if_neg hlast]
      exact if_congr (by omega) rfl rfl

theorem getLsbD_openFound (tests : Vector WireTest 8) {n : Nat} (hn : n < 8) {w : WireTest} (hw : tests.toList[n]? = some w) :
    (openFound tests).getLsbD n = findsOpen w := by
  rw [openFound, getLsbD_foldl_setFlag _ 8 n le_rfl, if_pos hn, hw]
  rfl

/-- The self-check word: the OPEN flags below, bit 8 for a pantograph found up. -/
theorem getLsbD_selfCheckResult (s : State) (n : Nat) (hn : n < 16) :
    s.selfCheckResult.getLsbD n = if n < 8 then s.openChannel n else (bitOf s.foundUp).testBit (n - 8) := by
  have hsplit := Nat.testBit_two_pow_mul_add (bitOf s.foundUp) (b := s.sweeper.openFlags.toNat) (i := 8) s.sweeper.openFlags.isLt n
  rw [State.selfCheckResult, BitVec.getLsbD_ofNat, decide_eq_true hn, Bool.true_and, Nat.add_comm]
  exact hsplit

theorem State.selfCheckResult_eight (s : State) : s.selfCheckResult.getLsbD 8 = s.foundUp := by
  rw [getLsbD_selfCheckResult s 8 (by decide), if_neg (by decide)]
  cases s.foundUp <;> rfl

theorem State.selfCheckResult_shift (s : State) : s.selfCheckResult >>> 9 = 0 := by
  have hflags := s.sweeper.openFlags.isLt
  have hbit := bitOf_le s.foundUp
  apply BitVec.eq_of_toNat_eq
  rw [BitVec.toNat_ushiftRight, State.selfCheckResult, BitVec.toNat_ofNat, Nat.shiftRight_eq_div_pow,
    Nat.mod_eq_of_lt (by omega)]
  exact Nat.div_eq_of_lt (by omega)

theorem State.foundUp_iff (s : State) : s.foundUp = true ↔
    s.isTruck = true ∧ s.openChannel 4 = false ∧ s.config.loweredThreshold < s.code 4 := by
  simp [State.foundUp, and_assoc]

/-- R149: SELFCHECK_FAIL is for channels 0 to 4 on a truck, 0 and 1 on a feeder. -/
theorem State.selfCheckFailed_iff (s : State) :
    s.selfCheckFailed = true ↔ ∃ n, n < 5 ∧ s.openChannel n = true ∧ (s.isTruck = true ∨ n ≤ 1) := by
  constructor
  · intro h
    simp only [State.selfCheckFailed, Bool.or_eq_true, Bool.and_eq_true] at h
    rcases h with (h | h) | ⟨htruck, (h | h) | h⟩
    · exact ⟨0, by decide, h, .inr (by decide)⟩
    · exact ⟨1, by decide, h, .inr (by decide)⟩
    · exact ⟨2, by decide, h, .inl htruck⟩
    · exact ⟨3, by decide, h, .inl htruck⟩
    · exact ⟨4, by decide, h, .inl htruck⟩
  · rintro ⟨n, hn, hopen, hrole⟩
    interval_cases n <;> simp_all [State.selfCheckFailed]

/-! ### The first decisions (R135, R136, R166) -/

theorem State.firstDecisions_of_truck {s : State} (h : s.isTruck = true) : s.firstDecisions = s.firstPantograph := if_pos h

theorem State.firstPantograph_of_open {s : State} (h : s.openChannel 4 = true) :
    s.firstPantograph = { s with panto := { s.panto.enter .faulted with holdDuty := s.config.holdStart } } := if_pos h

theorem State.firstPantograph_of_up {s : State} (hopen : s.openChannel 4 = false) (h : s.foundUp = true) :
    s.firstPantograph = { s with panto := { s.panto.enter .lowering with
      holdDuty := s.config.holdStart, lowerTimer := some (s.clock + 1000 * s.config.lowerTimeout) } } :=
  (if_neg (Bool.eq_false_iff.1 hopen)).trans (if_pos h)

theorem State.firstPantograph_of_down {s : State} (hopen : s.openChannel 4 = false) (h : s.foundUp = false) :
    s.firstPantograph = { s with panto := { s.panto with holdDuty := s.config.holdStart } } :=
  (if_neg (Bool.eq_false_iff.1 hopen)).trans (if_neg (Bool.eq_false_iff.1 h))

/-- The overload state a feeder's first set leaves, NORMAL having stood before it (R166). -/
def State.firstOverload (s : State) : FeederLogic :=
  if s.validChannel 0 = true ∧ s.validChannel 1 = true ∧ s.config.capacity + s.config.capacity / 16 < 4 * s.code 0
    then { s.feeder with overload := .over, overTimer := some (s.clock + 200000) } else s.feeder

theorem State.firstDecisions_of_feeder {s : State} (h : s.isTruck = false) (hnormal : s.feeder.overload = .normal) :
    s.firstDecisions = { s with feeder := s.firstOverload } := by
  refine (if_neg (Bool.eq_false_iff.1 h)).trans ?_
  unfold State.firstOverload
  by_cases hcounted : s.validChannel 0 = true ∧ s.validChannel 1 = true
  · rw [State.setInFeeder_of_normal hcounted.1 hcounted.2 hnormal]
    by_cases hover : s.overThreshold < s.feederCurrent
    · rw [if_pos hover, if_pos ⟨hcounted.1, hcounted.2, hover⟩]
    · rw [if_neg hover, if_neg fun hall => hover hall.2.2]
  · rw [if_neg fun hall => hcounted ⟨hall.1, hall.2.1⟩, State.setInFeeder_of_not_counted]
    simpa only [not_and_or, Bool.not_eq_true] using hcounted

@[simp] theorem State.firstDecisions_sweeper (s : State) : s.firstDecisions.sweeper = s.sweeper := by
  unfold State.firstDecisions
  split <;> simp

/-! ### The end of the self-check (R44, R141, R148, R149, R181) -/

/-- The state with the first set published and the flags of the tests. -/
def State.firstSet (s : State) (t : Nat) (tests : Vector WireTest 8) (samples : Vector Code 18) : State :=
  { s with clock := max s.clock t, sweeper := s.sweeper.afterSelfCheck tests samples (max s.clock t) }

/-- The state at ready, before the first decisions. -/
def State.madeReady (s : State) (t : Nat) (tests : Vector WireTest 8) (samples : Vector Code 18) : State :=
  { s.firstSet t tests samples with
    startup := .ready
    sweeper := { (s.firstSet t tests samples).sweeper with selfCheckWord := (s.firstSet t tests samples).selfCheckResult }
    share := { s.share with cycleTimer := some (max s.clock t + 10000 * s.config.period) }
    port := if (s.firstSet t tests samples).selfCheckFailed then s.port.raise .selfcheckFail else s.port }

section SelfCheck

variable {t : Nat} {tests : Vector WireTest 8} {samples : Vector Code 18} {s : State} (hcheck : s.startup = .selfCheck)

include hcheck

theorem State.takenAt_of_selfCheck : s.takenAt t = { s with clock := max s.clock t } :=
  State.takenAt_eq t s (by simp [State.running, hcheck])

theorem exec_selfcheckEnd_of_early (hearly : max s.clock t < 680) :
    exec (.selfcheckEnd t tests samples) s = .next { s with clock := max s.clock t } := by
  change execSelfcheckEnd t tests samples s = _
  rw [execSelfcheckEnd, State.takenAt_of_selfCheck hcheck]
  exact congrArg Host.Outcome.next (if_neg fun hboth =>
    absurd (of_decide_eq_true (Bool.and_eq_true_iff.1 hboth).2) (Nat.not_le.2 hearly))

theorem exec_selfcheckEnd_of_end (hend : 680 ≤ max s.clock t) :
    exec (.selfcheckEnd t tests samples) s = .next (s.madeReady t tests samples).firstDecisions := by
  change execSelfcheckEnd t tests samples s = _
  rw [execSelfcheckEnd, State.takenAt_of_selfCheck hcheck]
  refine congrArg Host.Outcome.next ((if_pos (Bool.and_eq_true_iff.2 ⟨by simp [hcheck], decide_eq_true hend⟩)).trans ?_)
  have hmade : State.raiseIf { s.madeReady t tests samples with port := s.port }
      (s.firstSet t tests samples).selfCheckFailed .selfcheckFail = s.madeReady t tests samples := by
    unfold State.madeReady
    cases (s.firstSet t tests samples).selfCheckFailed <;> rfl
  have hperiod : 10000 * s.config.period = 1000 * (10 * s.config.period) := by omega
  rw [← hmade, State.madeReady, hperiod]
  rfl

end SelfCheck

section FirstSet

variable (s : State) (t : Nat) (tests : Vector WireTest 8) (samples : Vector Code 18)

theorem State.firstSet_openChannel {n : Nat} (hn : n < 8) {w : WireTest} (hw : tests.toList[n]? = some w) :
    (s.firstSet t tests samples).openChannel n = findsOpen w := getLsbD_openFound tests hn hw

theorem State.firstSet_validChannel {n : Nat} (hn : n < 8) :
    (s.firstSet t tests samples).validChannel n = !(s.firstSet t tests samples).openChannel n :=
  (BitVec.getLsbD_not).trans (by rw [decide_eq_true hn, Bool.true_and]; rfl)

theorem State.firstSet_code {n : Nat} (hn : n < 8) (hgood : (s.firstSet t tests samples).openChannel n = false) :
    (s.firstSet t tests samples).code n = (sweepCode samples n).toNat := by
  have hcode := Sweeper.publish_code { s.sweeper with openFlags := openFound tests } samples hn
  exact congrArg BitVec.toNat (hcode.trans (Sweeper.nextCode_of_good samples hgood))

end FirstSet

/-- A feeder's first set, in the terms of the OPEN flags. -/
theorem State.madeReady_firstOverload (s : State) (t : Nat) (tests : Vector WireTest 8) (samples : Vector Code 18)
    (hfeeder : s.isTruck = false) : (s.madeReady t tests samples).firstOverload =
      if s.isTruck = false ∧ (s.firstSet t tests samples).openChannel 0 = false ∧
          (s.firstSet t tests samples).openChannel 1 = false ∧
          s.config.capacity + s.config.capacity / 16 < 4 * (s.firstSet t tests samples).code 0
        then { s.feeder with overload := .over, overTimer := some (max s.clock t + 200000) } else s.feeder := by
  have h0 := s.firstSet_validChannel t tests samples (n := 0) (by decide)
  have h1 := s.firstSet_validChannel t tests samples (n := 1) (by decide)
  have hvalid : ∀ n, (s.madeReady t tests samples).validChannel n = (s.firstSet t tests samples).validChannel n := fun _ => rfl
  rw [State.firstOverload, hvalid, hvalid, h0, h1]
  simp only [Bool.not_eq_true', hfeeder, true_and]
  rfl

theorem State.alertN_powerOn (s : State) (stage : Startup) : (s.powerOn stage).alertN = true := by
  simp [State.alertN, State.alerting, State.powerOn, State.reset, TruckPort.powerOn]

/-- The first decisions by role, an overload state of NORMAL standing before them. -/
theorem State.firstDecisions_port_feeder {s : State} (hnormal : s.feeder.overload = .normal) : s.firstDecisions.port = s.port ∧
    s.firstDecisions.feeder = (if s.isTruck then s.feeder else s.firstOverload) ∧
    s.firstDecisions = { s with panto := s.firstDecisions.panto, feeder := s.firstDecisions.feeder } := by
  cases hrole : s.isTruck with
  | true =>
    rw [State.firstDecisions_of_truck hrole]
    exact ⟨by simp, by simp, s.firstPantograph_frame.trans (by simp)⟩
  | false =>
    rw [State.firstDecisions_of_feeder hrole hnormal]
    exact ⟨rfl, rfl, rfl⟩

/-- Settles O59, stage by stage. -/
theorem startUpPassesThroughItsStages : Obligations.StartUpPassesThroughItsStages := by
  refine ⟨fun s => ⟨_, rfl, rfl, rfl, rfl, rfl, rfl, rfl, rfl, s.alertN_powerOn .held⟩, fun s => ⟨fun hheld => ?_, fun hother => ?_⟩,
    fun block s hloading => ⟨_, exec_configurationLoadEnd hloading, ?_⟩, fun t tests samples s hcheck =>
      ⟨exec_selfcheckEnd_of_early hcheck, fun hend hnormal => ⟨_, exec_selfcheckEnd_of_end hcheck hend, ?_⟩⟩⟩
  · exact congrArg Host.Outcome.next (if_pos (by simp [hheld]))
  · exact congrArg Host.Outcome.next (if_neg (by simpa using hother))
  · refine ⟨fun hnone => ?_, fun v hv => ?_, fun hrejected => ?_, fun haccepted => ?_, rfl⟩
    · rw [hnone]
      rfl
    · subst hv
      intro b crcGood
      refine ⟨fun hversion => ?_, fun hversion hcrc => ?_, fun hversion hcrc => ⟨?_, fun haltered => ?_, fun hsame => ?_⟩⟩
      · exact congrArg Prod.fst (loadOutcome_of_version hversion)
      · exact congrArg Prod.fst (loadOutcome_of_badCrc hversion hcrc)
      · have hconfig : (s.loaded (some v)).config = acceptedConfiguration b :=
          congrArg Prod.snd (loadOutcome_of_goodCrc hversion hcrc)
        rw [hconfig]
        exact takenFrom_acceptedConfiguration b
      · exact (congrArg Prod.fst (loadOutcome_of_goodCrc hversion hcrc)).trans (if_pos ((blockAdjusted_iff b).2 haltered))
      · exact (congrArg Prod.fst (loadOutcome_of_goodCrc hversion hcrc)).trans (if_neg (mt (blockAdjusted_iff b).1 hsame))
    · have hdefault : (s.loaded block).config = defaultConfiguration := loadOutcome_rejected block hrejected
      rw [hdefault]
      exact ⟨rfl, rfl, if_pos hrejected⟩
    · exact if_neg (Bool.eq_false_iff.1 haccepted)
  · have hsweeper := (s.madeReady t tests samples).firstDecisions_sweeper
    have htruckSet : s.isTruck = true → (s.madeReady t tests samples).firstDecisions =
        (s.madeReady t tests samples).firstPantograph := State.firstDecisions_of_truck (s := s.madeReady t tests samples)
    obtain ⟨hport, hfeeder, hframe⟩ := State.firstDecisions_port_feeder (s := s.madeReady t tests samples) hnormal
    have hopen : ∀ n, (s.madeReady t tests samples).firstDecisions.openChannel n = (s.firstSet t tests samples).openChannel n :=
      fun n => by rw [State.openChannel, hsweeper]; rfl
    have hvalid : ∀ n, (s.madeReady t tests samples).firstDecisions.validChannel n = (s.firstSet t tests samples).validChannel n :=
      fun n => by rw [State.validChannel, hsweeper]; rfl
    have hcode : ∀ n, (s.madeReady t tests samples).firstDecisions.code n = (s.firstSet t tests samples).code n :=
      fun n => by rw [State.code, hsweeper]; rfl
    have hword : (s.madeReady t tests samples).firstDecisions.sweeper.selfCheckWord =
        (s.firstSet t tests samples).selfCheckResult := by rw [hsweeper]; rfl
    have hfound := (s.firstSet t tests samples).foundUp_iff
    have hfailed := (s.firstSet t tests samples).selfCheckFailed_iff
    simp only [hopen, hvalid, hcode, hword]
    refine ⟨fun n w hn hw => ?_, fun n hn => s.firstSet_validChannel t tests samples hn,
      fun n hn hgood => s.firstSet_code t tests samples hn hgood, fun n hn => ?_, ?_,
      (s.firstSet t tests samples).selfCheckResult_shift, fun hfails => ?_, fun hpasses => ?_, fun htruck h4 => ?_,
      fun htruck hup => ?_, fun htruck h4 hdown => ?_, fun hrole => ?_, ?_, ?_, ?_⟩
    · rw [s.firstSet_openChannel t tests samples hn hw]
      exact findsOpen_iff w
    · rw [getLsbD_selfCheckResult _ n (by omega), if_pos hn]
    · rw [State.selfCheckResult_eight]
      exact hfound
    · rw [hport]
      exact if_pos (hfailed.2 hfails)
    · rw [hport]
      refine if_neg fun hset => ?_
      obtain ⟨n, hn, hset, hrole⟩ := hfailed.1 hset
      obtain ⟨hfeeder, hlow⟩ := hpasses n hn hset
      rcases hrole with htruck | hhigh
      · exact Bool.false_ne_true (hfeeder.symm.trans htruck)
      · omega
    · rw [htruckSet htruck, State.firstPantograph_of_open (s := s.madeReady t tests samples) h4]
      rfl
    · rw [State.selfCheckResult_eight] at hup
      rw [htruckSet htruck, State.firstPantograph_of_up (s := s.madeReady t tests samples) (hfound.1 hup).2.1 hup]
      rfl
    · rw [State.selfCheckResult_eight] at hdown
      rw [htruckSet htruck, State.firstPantograph_of_down (s := s.madeReady t tests samples) h4 hdown]
      rfl
    · rw [State.firstDecisions_of_feeder (s := s.madeReady t tests samples) hrole hnormal]
      rfl
    · rw [hfeeder]
      cases hrole : s.isTruck with
      | true =>
        refine (if_pos hrole).trans ?_
        simp only [Bool.true_eq_false, false_and, if_false]
        rfl
      | false =>
        refine (if_neg (Bool.eq_false_iff.1 hrole)).trans ((s.madeReady_firstOverload t tests samples hrole).trans ?_)
        rw [hrole]
    · rw [hsweeper]
      rfl
    · rw [hframe]
      rfl

end Sys2Proof.Machine

/-! ## Reception: characters, dropped frames, failed headers and gaps -/

namespace Sys2Proof.Machine

/-! ### One character (R105) -/

theorem State.takes_iff (s : State) (c : Character) : s.takes c = true ↔
    s.receiving = true ∧ s.link.listenFrom ≤ c.start ∧ c.start + 260 ≤ s.clock := by
  simp [State.takes, characterTime, and_assoc]

/-- A character taken that completes no frame moves the assembler on and nothing else. -/
theorem State.takeCharacter_of_incomplete {s : State} {c : Character} {a : Assembler} (htakes : s.takes c = true)
    (htaken : (s.link.afterGap c.start).take c = (a, none)) :
    s.takeCharacter c = { s with link := { s.link with assembler := a, listenFrom := c.start + 260 } } := by
  rw [State.takeCharacter_of_taken s c htakes, htaken]
  rfl

theorem assembled_of_begun {bytes : List Byte} (hpass : headerFails bytes = false)
    (hmore : bytes.length < 5 ∨ bytes.length < 7 + (bytes.getD 4 0).toNat) : assembled bytes = (.assembling bytes, none) := by
  have hopen : frameComplete bytes = false := by
    rw [frameComplete, Bool.and_eq_false_iff, decide_eq_false_iff_not, decide_eq_false_iff_not]
    omega
  rw [assembled, hpass, hopen]
  rfl

/-- R105: a low stop bit leaves the assembler hunting, whatever it was at. -/
theorem Assembler.take_of_unframed (a : Assembler) (x : Nat) (b : Byte) : a.take ⟨x, b, false⟩ = (.hunting, none) := by
  cases a <;> rfl

/-! ### Whole frames (R105 to R107) -/

/-- The command that brings a frame's characters, of whatever kind the frame is. -/
def BringsFrame (t : Nat) (a : Address) (crc : Half) (i : Instr) (f : Frame) (starts : List Nat) : Prop :=
  (∃ d v, f = ⟨a, .demand d⟩ ∧ i = .demandReceived t a d ⟨crc, v⟩ ∧ v.toList = starts) ∨
    (∃ d v, f = ⟨a, .supply d⟩ ∧ i = .supplyReceived t a d ⟨crc, v⟩ ∧ v.toList = starts) ∨
    (∃ d v, f = ⟨a, .shed d⟩ ∧ i = .shedReceived t a d ⟨crc, v⟩ ∧ v.toList = starts) ∨
    (∃ v, f = ⟨a, .depart⟩ ∧ i = .departReceived t a ⟨crc, v⟩ ∧ v.toList = starts)

/-- Whatever the kind, the command's characters are heard, one start for each byte. -/
theorem BringsFrame.exec_eq {t : Nat} {a : Address} {crc : Half} {i : Instr} {f : Frame} {starts : List Nat}
    (h : BringsFrame t a crc i f starts) (s : State) :
    exec i s = .next ((s.takenAt t).hear (f.characters crc starts)) ∧ starts.length = (f.received crc).length ∧ f.source = a := by
  rcases h with ⟨d, v, rfl, rfl, rfl⟩ | ⟨d, v, rfl, rfl, rfl⟩ | ⟨d, v, rfl, rfl, rfl⟩ | ⟨v, rfl, rfl, rfl⟩ <;>
    exact ⟨rfl, by simp [Frame.length_received, length_payloadBytes], rfl⟩

theorem Frame.start_of_mem_characters {f : Frame} {crc : Half} {starts : List Nat} {c : Character}
    (h : c ∈ f.characters crc starts) : c.start ∈ starts := by
  obtain ⟨k, hk, rfl⟩ := List.getElem_of_mem h
  simp [Frame.characters]

theorem State.receiving_takenAt {s : State} (t : Nat) (hready : s.startup = .ready) (hmtxen : s.mtxen = false) :
    (s.takenAt t).receiving = true := by
  simp [State.receiving, State.running, hready, hmtxen]

theorem State.not_receiving_takenAt {s : State} (t : Nat) (hmtxen : s.mtxen = true) : (s.takenAt t).receiving = false := by
  simp [State.receiving, hmtxen]

/-- R105: a hunting assembler discards a whole frame. -/
theorem State.hear_characters_hunting {f : Frame} {crc : Half} {t : Nat} {starts : List Nat} {s : State} (hready : s.startup = .ready)
    (hmtxen : s.mtxen = false) (hlength : starts.length = (f.received crc).length) (ha : s.link.assembler = .hunting)
    (hfollowing : following (max s.clock t) s.link.listenFrom starts = true) :
    (s.takenAt t).hear (f.characters crc starts) =
      { s with
        clock := max s.clock t
        link := { s.link with assembler := .hunting, listenFrom := starts.getLastD 0 + 260 } } := by
  have htaken := State.takenAt_of_ready t s hready
  have hreceiving := State.receiving_takenAt t hready hmtxen
  have hne : starts ≠ [] := by
    rintro rfl
    rw [Frame.length_received, List.length_nil] at hlength
    omega
  rw [htaken] at hreceiving ⊢
  exact State.hear_hunting f crc starts 0 _ (by rw [hlength, Nat.zero_add]) hne hreceiving ha hfollowing

/-- R105: of a frame begun before the part listens, or heard while it sends, nothing is taken. -/
theorem State.hear_characters_unheard {f : Frame} (crc : Half) {t : Nat} {starts : List Nat} {s : State} (hready : s.startup = .ready)
    (h : (∀ x ∈ starts, x < s.link.listenFrom) ∨ s.mtxen = true) :
    (s.takenAt t).hear (f.characters crc starts) = s.takenAt t := by
  rcases h with hearly | hmtxen
  · refine State.hear_of_early _ _ fun c hc => ?_
    rw [State.takenAt_of_ready t s hready]
    exact hearly _ (Frame.start_of_mem_characters hc)
  · exact State.hear_of_deaf _ _ (State.not_receiving_takenAt t hmtxen)

/-! ### Header tests (R106) -/

theorem kindLength_of_no_kind {b : Byte} (h1 : b ≠ 0x01) (h2 : b ≠ 0x02) (h3 : b ≠ 0x03) (h4 : b ≠ 0x04) : kindLength b = none := by
  have hne : ∀ n : Byte, b ≠ n → b.toNat ≠ n.toNat := fun n h heq => h (BitVec.eq_of_toNat_eq heq)
  unfold kindLength
  split
  case h_1 heq => exact absurd heq (hne _ h1)
  case h_2 heq => exact absurd heq (hne _ h2)
  case h_3 heq => exact absurd heq (hne _ h3)
  case h_4 heq => exact absurd heq (hne _ h4)
  case h_5 => rfl

/-- R106: the length byte of a kind that is not the kind's length. -/
theorem kindLength_of_wrong_length {kind len : Byte}
    (h : kind = 0x01 ∧ len ≠ 13 ∨ kind = 0x02 ∧ len ≠ 10 ∨ kind = 0x03 ∧ len ≠ 3 ∨ kind = 0x04 ∧ len ≠ 0) :
    ∃ n, kindLength kind = some n ∧ n ≠ len.toNat := by
  have hne : ∀ n : Byte, len ≠ n → n.toNat ≠ len.toNat := fun n h heq => h (BitVec.eq_of_toNat_eq heq.symm)
  rcases h with ⟨rfl, h⟩ | ⟨rfl, h⟩ | ⟨rfl, h⟩ | ⟨rfl, h⟩
  all_goals exact ⟨_, rfl, hne _ h⟩

theorem headerFails_of_marker {b : Byte} (h : b ≠ 0xA5) : headerFails [b] = true := bne_iff_ne.2 h

theorem headerFails_of_kind {b : Byte} (h : kindLength b = none) : headerFails [0xA5, b] = true := by
  simp [headerFails, h]

theorem headerFails_of_length {kind len b2 b3 : Byte} {n : Nat} (hkind : kindLength kind = some n) (hn : n ≠ len.toNat) :
    headerFails [0xA5, kind, b2, b3, len] = true := by
  simp [headerFails, hkind, hn]

/-- The bytes of a header before its fifth pass their tests where marker and kind do. -/
theorem header_begins {kind b2 b3 len : Byte} {m : Nat} (hkind : kindLength kind = some m) {n : Nat} (hn : n < 5) :
    headerFails ([0xA5, kind, b2, b3, len].take n) = false ∧ frameComplete ([0xA5, kind, b2, b3, len].take n) = false := by
  interval_cases n <;> simp [headerFails, frameComplete, hkind]

theorem header_begins_with_marker {b : Byte} {n : Nat} (hn : n < 2) :
    headerFails ([0xA5, b].take n) = false ∧ frameComplete ([0xA5, b].take n) = false := by
  interval_cases n <;> simp [headerFails, frameComplete]

theorem header_begins_empty {b : Byte} {n : Nat} (hn : n < 1) :
    headerFails ([b].take n) = false ∧ frameComplete ([b].take n) = false := by
  interval_cases n
  exact ⟨rfl, rfl⟩

/-! ### Gaps (R105) -/

theorem State.gapStands_iff (s : State) : s.gapStands = true ↔
    s.receiving = true ∧ s.link.assembler ≠ .waiting ∧ s.link.listenFrom + 2000 < s.clock := by
  simp [State.gapStands, maxGap, and_assoc]

/-- The end of a gap, by now with no character to hear. -/
theorem exec_receiveGapTimeout {t : Nat} {s : State} {l : List Character} (hready : s.startup = .ready)
    (hnothing : (s.takenAt t).hear l = s.takenAt t) : exec (.receiveGapTimeout ⟨t, l⟩) s = .next
      (if (s.takenAt t).gapStands then { s with clock := max s.clock t, link := { s.link with assembler := .waiting } }
        else { s with clock := max s.clock t }) := by
  change execReceiveGapTimeout ⟨t, l⟩ s = _
  rw [execReceiveGapTimeout]
  dsimp only
  rw [hnothing, State.takenAt_of_ready t s hready]

theorem exec_receiveGapTimeout_of_no_gap {t : Nat} {s : State} {l : List Character} (hready : s.startup = .ready)
    (hnothing : (s.takenAt t).hear l = s.takenAt t) (hstands : (s.takenAt t).gapStands = false) :
    exec (.receiveGapTimeout ⟨t, l⟩) s = .next { s with clock := max s.clock t } := by
  rw [exec_receiveGapTimeout hready hnothing, hstands, if_neg Bool.false_ne_true]

/-- R105: a gap over 2 ms leaves the assembler waiting, as one that waits already is. -/
theorem exec_receiveGapTimeout_of_gap {t : Nat} {s : State} (hready : s.startup = .ready) (hmtxen : s.mtxen = false)
    (hgap : s.link.listenFrom + 2000 < max s.clock t) : exec (.receiveGapTimeout ⟨t, []⟩) s =
      .next { s with clock := max s.clock t, link := { s.link with assembler := .waiting } } := by
  rw [exec_receiveGapTimeout hready rfl]
  split
  case isTrue => rfl
  case isFalse hnogap =>
    have hwaiting : s.link.assembler = .waiting := not_not.1 fun hnot => hnogap <| by
      have hreceiving := State.receiving_takenAt t hready hmtxen
      rw [State.takenAt_of_ready t s hready] at hreceiving ⊢
      exact (State.gapStands_iff _).2 ⟨hreceiving, hnot, hgap⟩
    rw [← hwaiting]

theorem State.gapStands_of_soon {t : Nat} {s : State} (hready : s.startup = .ready)
    (hgap : max s.clock t ≤ s.link.listenFrom + 2000) : (s.takenAt t).gapStands = false := by
  rw [Bool.eq_false_iff, ne_eq, State.gapStands_iff, State.takenAt_of_ready t s hready]
  exact fun ⟨_, _, hlate⟩ => absurd hlate (Nat.not_lt.2 hgap)

theorem State.gapStands_of_deaf {s : State} (h : s.receiving = false) : s.gapStands = false := by
  rw [State.gapStands, h, Bool.false_and, Bool.false_and]

/-- Settles O26: characters one by one, then each command of the line. -/
theorem droppedFramesReachNoTable : Obligations.DroppedFramesReachNoTable := by
  refine ⟨fun s x b hreceiving => ?_, fun t s hready => ?_⟩
  · intro becomes
    refine ⟨fun hnot g => ?_, fun hfrom hend => ⟨fun hwaits hb => ?_, fun begun ha hgap hpass hmore => ?_, fun ha hgap => ?_⟩⟩
    · refine State.takeCharacter_of_not_taken s _ (Bool.eq_false_iff.2 fun htakes => ?_)
      obtain ⟨-, hfrom, hend⟩ := (s.takes_iff _).1 htakes
      simp only at hfrom hend
      omega
    · have hstarts : s.link.afterGap x = .waiting := by
        rcases hwaits with ha | hgap
        · simp only [CarrierLink.afterGap, ha, ite_self]
        · exact s.link.afterGap_of_lt x hgap
      subst hb
      exact State.takeCharacter_of_incomplete ((s.takes_iff _).2 ⟨hreceiving, hfrom, hend⟩) (by rw [hstarts]; rfl)
    · refine State.takeCharacter_of_incomplete ((s.takes_iff _).2 ⟨hreceiving, hfrom, hend⟩) ?_
      rw [s.link.afterGap_of_le x hgap, ha]
      refine assembled_of_begun (bytes := begun ++ [b]) hpass ?_
      rw [List.length_append, List.length_singleton]
      omega
    · refine State.takeCharacter_of_incomplete ((s.takes_iff _).2 ⟨hreceiving, hfrom, hend⟩) ?_
      rw [s.link.afterGap_of_le x hgap, ha]
      rfl
  · have htaken := State.takenAt_of_ready t s hready
    intro becomes ignored
    refine ⟨fun a crc i f starts hbrings => ?_, fun b0 b1 b2 b3 b4 x0 x1 x2 x3 x4 => ⟨fun hmarker hheard => ?_,
      fun h1 h2 h3 h4 hheard => ?_, fun hlength hheard => ?_⟩, fun x b hmtxen hfrom hend => ?_, fun hmtxen hgap => ?_,
      fun hgap => ?_, fun hmtxen l => ⟨?_, ?_, ?_⟩⟩
    · obtain ⟨hexec, hlength, hsource⟩ := BringsFrame.exec_eq hbrings s
      refine ⟨fun hheard hbad => ?_, fun hheard hcrc h0 hF hown => ?_, fun hmtxen ha hfollowing => ?_, fun hunheard => ?_⟩
      · rw [State.hear_whole f crc t starts s hready hlength hheard, State.takeFrame_dropped _ f crc (hsource ▸ hbad), htaken] at hexec
        exact hexec
      · subst hcrc
        rw [State.hear_whole f _ t starts s hready hlength hheard, State.takeFrame_clash _ f (hsource ▸ ⟨h0, hF⟩) (by
          rw [hsource, hown, htaken]), htaken] at hexec
        exact hexec
      · exact hexec.trans (congrArg Host.Outcome.next (State.hear_characters_hunting hready hmtxen hlength ha hfollowing))
      · exact hexec.trans (congrArg Host.Outcome.next ((State.hear_characters_unheard crc hready hunheard).trans htaken))
    · exact congrArg Host.Outcome.next (State.hear_failing [b0] [x0] t s rfl hready hheard (headerFails_of_marker hmarker)
        fun _ => header_begins_empty)
    · exact congrArg Host.Outcome.next (State.hear_failing [0xA5, b1] [x0, x1] t s rfl hready hheard
        (headerFails_of_kind (kindLength_of_no_kind h1 h2 h3 h4)) fun _ => header_begins_with_marker)
    · obtain ⟨n, hkind, hn⟩ := kindLength_of_wrong_length hlength
      exact congrArg Host.Outcome.next (State.hear_failing [0xA5, b1, b2, b3, b4] [x0, x1, x2, x3, x4] t s rfl hready hheard
        (headerFails_of_length hkind hn) fun _ => header_begins hkind)
    · have htakes : (s.takenAt t).takes ⟨x, b, false⟩ = true := by
        refine (State.takes_iff _ _).2 ⟨State.receiving_takenAt t hready hmtxen, ?_⟩
        rw [htaken]
        exact ⟨hfrom, hend⟩
      exact congrArg Host.Outcome.next ((State.takeCharacter_of_incomplete htakes (Assembler.take_of_unframed _ x b)).trans (by rw [htaken]))
    · exact exec_receiveGapTimeout_of_gap hready hmtxen hgap
    · exact exec_receiveGapTimeout_of_no_gap hready rfl (State.gapStands_of_soon hready hgap)
    all_goals
      have hdeaf := State.not_receiving_takenAt t hmtxen
      have hnothing := State.hear_of_deaf l _ hdeaf
    · exact congrArg Host.Outcome.next (hnothing.trans htaken)
    · exact exec_receiveGapTimeout_of_no_gap hready hnothing (State.gapStands_of_deaf hdeaf)
    · exact congrArg Host.Outcome.next (hnothing.trans htaken)

end Sys2Proof.Machine
